-- ==== Sys2Proof/Word.lean ====
section
/-! DEFINITION. The numeric domains of the spec (00_scope.md R9, 10_state.md R46), each as a bit vector of its own
width, so that no value outside a domain can be written. -/

namespace Sys2Proof

/-- The input byte of a DEC step and the MSG register: 8 bits (R46, R32). -/
abbrev Byte := BitVec 8

/-- u3, a piece index (R9). -/
abbrev U3 := BitVec 3

/-- u4, a channel or an MTC nibble (R9). -/
abbrev U4 := BitVec 4

/-- u7, a data byte's value (R9). -/
abbrev U7 := BitVec 7

/-- u14, two data bytes put together (R9). -/
abbrev U14 := BitVec 14

/-- The TCA operation word, 9 bits: tc_op, tc_piece and tc_data side by side (R99). -/
abbrev TcWord := BitVec 9

end Sys2Proof
end

