-- ==== Sys2Proof/Syntax.lean ====
section
/-! DEFINITION. What the CORE reads: the context that selects the meaning of a data byte, the 66 instructions (one
constructor for each row of spec/opcode_table.json), the words they are presented as, and what the host can present. -/

namespace Sys2Proof

/-- The eight codes of the 3-bit PHASE register (R31, R12): the five phases and the codes 5, 6, 7, which no rule
writes and R173 gives a meaning all the same. -/
inductive Phase
  /-- Idle, code 0: no status byte seen since reset. -/
  | idle
  /-- AwaitingFirstDataByte, code 1. -/
  | aw1
  /-- AwaitingSecondDataByte, code 2. -/
  | aw2
  /-- AwaitingSysExIdLowByte, code 3. -/
  | awsx
  /-- InSysExData, code 4. -/
  | sxd
  /-- The unused code 5. -/
  | code5
  /-- The unused code 6. -/
  | code6
  /-- The unused code 7. -/
  | code7
  deriving DecidableEq, Repr

/-- The registers that select the meaning of a data byte: PHASE and MSG (R14), and PEND for the controller or mode
choice (R94). -/
structure Context where
  phase : Phase
  msg   : Byte
  pend  : U7
  deriving DecidableEq, Repr

/-- The five load inputs of TCA, which only LOAD reads (R51, R99, R251). -/
structure LoadPorts where
  hour   : BitVec 5
  minute : BitVec 6
  second : BitVec 6
  frame  : BitVec 5
  rate   : BitVec 2
  deriving DecidableEq, Repr

/-- The instructions, in the order of spec/opcode_table.json. -/
inductive Instr
  -- System-realtime bytes (40_realtime.md).
  /-- RT.CLOCK, `11111000` (R111). -/
  | rtClock
  /-- RT.UNDEF_F9, `11111001` (R112). -/
  | rtUndefF9
  /-- RT.START, `11111010` (R113). -/
  | rtStart
  /-- RT.CONTINUE, `11111011` (R114). -/
  | rtContinue
  /-- RT.STOP, `11111100` (R115). -/
  | rtStop
  /-- RT.UNDEF_FD, `11111101` (R116). -/
  | rtUndefFd
  /-- RT.ACTIVE_SENSING, `11111110` (R117). -/
  | rtActiveSensing
  /-- RT.SYSTEM_RESET, `11111111` (R118). -/
  | rtSystemReset
  -- Channel-voice status bytes, with the channel of the low nibble (41_status.md).
  /-- ST.NOTE_OFF, `1000cccc` (R131). -/
  | stNoteOff (c : U4)
  /-- ST.NOTE_ON, `1001cccc` (R132). -/
  | stNoteOn (c : U4)
  /-- ST.POLY_AT, `1010cccc` (R133). -/
  | stPolyAt (c : U4)
  /-- ST.CONTROL_CHANGE, `1011cccc` (R134). -/
  | stControlChange (c : U4)
  /-- ST.PROGRAM_CHANGE, `1100cccc` (R135). -/
  | stProgramChange (c : U4)
  /-- ST.CHANNEL_AT, `1101cccc` (R136). -/
  | stChannelAt (c : U4)
  /-- ST.PITCH_BEND, `1110cccc` (R137). -/
  | stPitchBend (c : U4)
  -- System-common status bytes (41_status.md).
  /-- ST.SYSEX_START, `11110000` (R138). -/
  | stSysexStart
  /-- ST.MTC_QUARTER_FRAME, `11110001` (R139). -/
  | stMtcQuarterFrame
  /-- ST.SONG_POSITION, `11110010` (R140). -/
  | stSongPosition
  /-- ST.SONG_SELECT, `11110011` (R141). -/
  | stSongSelect
  /-- ST.UNDEF_F4, `11110100` (R142). -/
  | stUndefF4
  /-- ST.UNDEF_F5, `11110101` (R143). -/
  | stUndefF5
  /-- ST.TUNE_REQUEST, `11110110` (R144). -/
  | stTuneRequest
  /-- ST.SYSEX_END, `11110111` (R145). -/
  | stSysexEnd
  -- Data bytes, one constructor for each context of R105 (42_data_first.md, 43_data_second.md, 44_sysex.md).
  /-- D.IDLE, `0ddddddd` (R161). -/
  | dIdle (d : U7)
  /-- D.AW1.PROGRAM_CHANGE, `0ddddddd` (R162). -/
  | dAw1ProgramChange (d : U7)
  /-- D.AW1.CHANNEL_AT, `0ddddddd` (R163). -/
  | dAw1ChannelAt (d : U7)
  /-- D.AW1.MTC_QUARTER_FRAME, `0pppnnnn` (R164). -/
  | dAw1MtcQuarterFrame (p : U3) (n : U4)
  /-- D.AW1.SONG_SELECT, `0ddddddd` (R165). -/
  | dAw1SongSelect (d : U7)
  /-- D.AW1.NOTE_OFF.1, `0ddddddd` (R166). -/
  | dAw1NoteOff1 (d : U7)
  /-- D.AW1.NOTE_ON.1, `0ddddddd` (R167). -/
  | dAw1NoteOn1 (d : U7)
  /-- D.AW1.POLY_AT.1, `0ddddddd` (R168). -/
  | dAw1PolyAt1 (d : U7)
  /-- D.AW1.CONTROL_CHANGE.1, `0ddddddd` (R169). -/
  | dAw1ControlChange1 (d : U7)
  /-- D.AW1.PITCH_BEND.1, `0ddddddd` (R170). -/
  | dAw1PitchBend1 (d : U7)
  /-- D.AW1.SONG_POSITION.1, `0ddddddd` (R171). -/
  | dAw1SongPosition1 (d : U7)
  /-- D.AW1.UNDEFINED_KIND, `0ddddddd` (R172). -/
  | dAw1UndefinedKind (d : U7)
  /-- D.UNREACHABLE, `0ddddddd` (R173). -/
  | dUnreachable (d : U7)
  /-- D.AW2.NOTE_OFF, `0ddddddd` (R181). -/
  | dAw2NoteOff (d : U7)
  /-- D.AW2.NOTE_ON, `0ddddddd` (R182). -/
  | dAw2NoteOn (d : U7)
  /-- D.AW2.POLY_AT, `0ddddddd` (R183). -/
  | dAw2PolyAt (d : U7)
  /-- D.AW2.CONTROL_CHANGE, `0ddddddd` (R185). -/
  | dAw2ControlChange (d : U7)
  /-- D.AW2.ALL_SOUND_OFF, `0ddddddd` (R186). -/
  | dAw2AllSoundOff (d : U7)
  /-- D.AW2.RESET_ALL_CONTROLLERS, `0ddddddd` (R187). -/
  | dAw2ResetAllControllers (d : U7)
  /-- D.AW2.LOCAL_CONTROL, `0ddddddd` (R188). -/
  | dAw2LocalControl (d : U7)
  /-- D.AW2.ALL_NOTES_OFF, `0ddddddd` (R189). -/
  | dAw2AllNotesOff (d : U7)
  /-- D.AW2.OMNI_OFF, `0ddddddd` (R190). -/
  | dAw2OmniOff (d : U7)
  /-- D.AW2.OMNI_ON, `0ddddddd` (R191). -/
  | dAw2OmniOn (d : U7)
  /-- D.AW2.MONO_MODE, `0ddddddd` (R192). -/
  | dAw2MonoMode (d : U7)
  /-- D.AW2.POLY_MODE, `0ddddddd` (R193). -/
  | dAw2PolyMode (d : U7)
  /-- D.AW2.PITCH_BEND, `0ddddddd` (R194). -/
  | dAw2PitchBend (d : U7)
  /-- D.AW2.SONG_POSITION, `0ddddddd` (R195). -/
  | dAw2SongPosition (d : U7)
  /-- D.AW2.UNREACHABLE, `0ddddddd` (R197). -/
  | dAw2Unreachable (d : U7)
  /-- D.AW1.SYSEX_ID_BYTE, `0ddddddd` (R221). -/
  | dAw1SysexIdByte (d : U7)
  /-- D.AW1.SYSEX_ID_ZERO, `00000000` (R222). -/
  | dAw1SysexIdZero
  /-- D.AWSX.SYSEX_ID_LOW, `0ddddddd` (R223). -/
  | dAwsxSysexIdLow (d : U7)
  /-- D.SXD.SYSEX_DATA, `0ddddddd` (R224). -/
  | dSxdSysexData (d : U7)
  -- TCA operation words (45_timecode.md). x is tc_piece and tc_data, which NOP, LOAD and the reserved code ignore (R101).
  /-- TC.NOP, `00xxxxxxx` (R252). -/
  | tcNop (x : U7)
  /-- TC.P0, `01000nnnn` (R242). -/
  | tcP0 (n : U4)
  /-- TC.P1, `01001nnnn` (R243). -/
  | tcP1 (n : U4)
  /-- TC.P2, `01010nnnn` (R244). -/
  | tcP2 (n : U4)
  /-- TC.P3, `01011nnnn` (R245). -/
  | tcP3 (n : U4)
  /-- TC.P4, `01100nnnn` (R246). -/
  | tcP4 (n : U4)
  /-- TC.P5, `01101nnnn` (R247). -/
  | tcP5 (n : U4)
  /-- TC.P6, `01110nnnn` (R248). -/
  | tcP6 (n : U4)
  /-- TC.P7, `01111nnnn` (R249). -/
  | tcP7 (n : U4)
  /-- TC.LOAD, `10xxxxxxx` (R251). -/
  | tcLoad (x : U7) (ld : LoadPorts)
  /-- TC.RSVD, `11xxxxxxx` (R252). -/
  | tcRsvd (x : U7)
  deriving DecidableEq, Repr

/-- An instruction as it is presented: one byte to DEC (R80), or a 9-bit word with the load inputs beside it to TCA
(R99). -/
inductive OpWord
  | dec (b : Byte)
  | tca (w : TcWord) (ld : LoadPorts)
  deriving DecidableEq, Repr

/-- What the host can do to the CORE in one step (R325): present an instruction, or assert one block's rst for one
edge (R312). -/
inductive Input
  | op (w : OpWord)
  | decReset
  | tcaReset
  deriving DecidableEq, Repr

end Sys2Proof
end

