-- ==== Sys2Proof/WellFormed.lean ====
section
/-! DEFINITION. Which terms of Instr are instructions (wf: the operand checks that the types do not make), and which
context each row belongs to (inContext: the context column of spec/opcode_table.json). -/

namespace Sys2Proof

/-- The fifteen message kinds that AW1 can hold (R36 (c)). -/
def firstByteKinds : List Byte :=
  [0x80#8, 0x90#8, 0xA0#8, 0xB0#8, 0xC0#8, 0xD0#8, 0xE0#8, 0xF0#8, 0xF1#8, 0xF2#8, 0xF3#8, 0xF4#8, 0xF5#8, 0xF6#8, 0xF7#8]

/-- The six two-data-byte kinds (R14, R36 (d)). -/
def secondByteKinds : List Byte := [0x80#8, 0x90#8, 0xA0#8, 0xB0#8, 0xE0#8, 0xF2#8]

/-- The four undefined kinds, for which no data byte is defined (R14). -/
def undefinedKinds : List Byte := [0xF4#8, 0xF5#8, 0xF6#8, 0xF7#8]

/-- The operand checks: a single-byte SysEx ID is not zero (R221). Every other operand admits every value of its
type. -/
def Instr.wf : Instr → Bool
  | .rtClock => true
  | .rtUndefF9 => true
  | .rtStart => true
  | .rtContinue => true
  | .rtStop => true
  | .rtUndefFd => true
  | .rtActiveSensing => true
  | .rtSystemReset => true
  | .stNoteOff _ => true
  | .stNoteOn _ => true
  | .stPolyAt _ => true
  | .stControlChange _ => true
  | .stProgramChange _ => true
  | .stChannelAt _ => true
  | .stPitchBend _ => true
  | .stSysexStart => true
  | .stMtcQuarterFrame => true
  | .stSongPosition => true
  | .stSongSelect => true
  | .stUndefF4 => true
  | .stUndefF5 => true
  | .stTuneRequest => true
  | .stSysexEnd => true
  | .dIdle _ => true
  | .dAw1ProgramChange _ => true
  | .dAw1ChannelAt _ => true
  | .dAw1MtcQuarterFrame _ _ => true
  | .dAw1SongSelect _ => true
  | .dAw1NoteOff1 _ => true
  | .dAw1NoteOn1 _ => true
  | .dAw1PolyAt1 _ => true
  | .dAw1ControlChange1 _ => true
  | .dAw1PitchBend1 _ => true
  | .dAw1SongPosition1 _ => true
  | .dAw1UndefinedKind _ => true
  | .dUnreachable _ => true
  | .dAw2NoteOff _ => true
  | .dAw2NoteOn _ => true
  | .dAw2PolyAt _ => true
  | .dAw2ControlChange _ => true
  | .dAw2AllSoundOff _ => true
  | .dAw2ResetAllControllers _ => true
  | .dAw2LocalControl _ => true
  | .dAw2AllNotesOff _ => true
  | .dAw2OmniOff _ => true
  | .dAw2OmniOn _ => true
  | .dAw2MonoMode _ => true
  | .dAw2PolyMode _ => true
  | .dAw2PitchBend _ => true
  | .dAw2SongPosition _ => true
  | .dAw2Unreachable _ => true
  | .dAw1SysexIdByte d => decide (d ≠ 0#7)
  | .dAw1SysexIdZero => true
  | .dAwsxSysexIdLow _ => true
  | .dSxdSysexData _ => true
  | .tcNop _ => true
  | .tcP0 _ => true
  | .tcP1 _ => true
  | .tcP2 _ => true
  | .tcP3 _ => true
  | .tcP4 _ => true
  | .tcP5 _ => true
  | .tcP6 _ => true
  | .tcP7 _ => true
  | .tcLoad _ _ => true
  | .tcRsvd _ => true

/-- The context column of the opcode table: a data-byte row stands for the byte in its own context only (R85, R105);
the other rows in every context. -/
def Instr.inContext (i : Instr) (c : Context) : Bool :=
  match i with
  | .rtClock => true
  | .rtUndefF9 => true
  | .rtStart => true
  | .rtContinue => true
  | .rtStop => true
  | .rtUndefFd => true
  | .rtActiveSensing => true
  | .rtSystemReset => true
  | .stNoteOff _ => true
  | .stNoteOn _ => true
  | .stPolyAt _ => true
  | .stControlChange _ => true
  | .stProgramChange _ => true
  | .stChannelAt _ => true
  | .stPitchBend _ => true
  | .stSysexStart => true
  | .stMtcQuarterFrame => true
  | .stSongPosition => true
  | .stSongSelect => true
  | .stUndefF4 => true
  | .stUndefF5 => true
  | .stTuneRequest => true
  | .stSysexEnd => true
  | .dIdle _ => decide (c.phase = .idle)
  | .dAw1ProgramChange _ => decide (c.phase = .aw1 ∧ c.msg = 0xC0#8)
  | .dAw1ChannelAt _ => decide (c.phase = .aw1 ∧ c.msg = 0xD0#8)
  | .dAw1MtcQuarterFrame _ _ => decide (c.phase = .aw1 ∧ c.msg = 0xF1#8)
  | .dAw1SongSelect _ => decide (c.phase = .aw1 ∧ c.msg = 0xF3#8)
  | .dAw1NoteOff1 _ => decide (c.phase = .aw1 ∧ c.msg = 0x80#8)
  | .dAw1NoteOn1 _ => decide (c.phase = .aw1 ∧ c.msg = 0x90#8)
  | .dAw1PolyAt1 _ => decide (c.phase = .aw1 ∧ c.msg = 0xA0#8)
  | .dAw1ControlChange1 _ => decide (c.phase = .aw1 ∧ c.msg = 0xB0#8)
  | .dAw1PitchBend1 _ => decide (c.phase = .aw1 ∧ c.msg = 0xE0#8)
  | .dAw1SongPosition1 _ => decide (c.phase = .aw1 ∧ c.msg = 0xF2#8)
  | .dAw1UndefinedKind _ => decide (c.phase = .aw1 ∧ c.msg ∈ undefinedKinds)
  | .dUnreachable _ => decide ((c.phase = .aw1 ∧ c.msg ∉ firstByteKinds) ∨ c.phase = .code5 ∨ c.phase = .code6 ∨ c.phase = .code7)
  | .dAw2NoteOff _ => decide (c.phase = .aw2 ∧ c.msg = 0x80#8)
  | .dAw2NoteOn _ => decide (c.phase = .aw2 ∧ c.msg = 0x90#8)
  | .dAw2PolyAt _ => decide (c.phase = .aw2 ∧ c.msg = 0xA0#8)
  | .dAw2ControlChange _ => decide (c.phase = .aw2 ∧ c.msg = 0xB0#8 ∧ c.pend < 0x78#7)
  | .dAw2AllSoundOff _ => decide (c.phase = .aw2 ∧ c.msg = 0xB0#8 ∧ c.pend = 0x78#7)
  | .dAw2ResetAllControllers _ => decide (c.phase = .aw2 ∧ c.msg = 0xB0#8 ∧ c.pend = 0x79#7)
  | .dAw2LocalControl _ => decide (c.phase = .aw2 ∧ c.msg = 0xB0#8 ∧ c.pend = 0x7A#7)
  | .dAw2AllNotesOff _ => decide (c.phase = .aw2 ∧ c.msg = 0xB0#8 ∧ c.pend = 0x7B#7)
  | .dAw2OmniOff _ => decide (c.phase = .aw2 ∧ c.msg = 0xB0#8 ∧ c.pend = 0x7C#7)
  | .dAw2OmniOn _ => decide (c.phase = .aw2 ∧ c.msg = 0xB0#8 ∧ c.pend = 0x7D#7)
  | .dAw2MonoMode _ => decide (c.phase = .aw2 ∧ c.msg = 0xB0#8 ∧ c.pend = 0x7E#7)
  | .dAw2PolyMode _ => decide (c.phase = .aw2 ∧ c.msg = 0xB0#8 ∧ c.pend = 0x7F#7)
  | .dAw2PitchBend _ => decide (c.phase = .aw2 ∧ c.msg = 0xE0#8)
  | .dAw2SongPosition _ => decide (c.phase = .aw2 ∧ c.msg = 0xF2#8)
  | .dAw2Unreachable _ => decide (c.phase = .aw2 ∧ c.msg ∉ secondByteKinds)
  | .dAw1SysexIdByte _ => decide (c.phase = .aw1 ∧ c.msg = 0xF0#8)
  | .dAw1SysexIdZero => decide (c.phase = .aw1 ∧ c.msg = 0xF0#8)
  | .dAwsxSysexIdLow _ => decide (c.phase = .awsx)
  | .dSxdSysexData _ => decide (c.phase = .sxd)
  | .tcNop _ => true
  | .tcP0 _ => true
  | .tcP1 _ => true
  | .tcP2 _ => true
  | .tcP3 _ => true
  | .tcP4 _ => true
  | .tcP5 _ => true
  | .tcP6 _ => true
  | .tcP7 _ => true
  | .tcLoad _ _ => true
  | .tcRsvd _ => true

end Sys2Proof
end

