-- ==== Sys2Proof/Decode.lean ====
section
/-! DEFINITION. The decoder (30_encoding.md R80 to R101; the context dispatch of 42_data_first.md R160 and
43_data_second.md R180, R184; the operation dispatch of 45_timecode.md R241), total on every word in every context,
and after it the encoder. No word is illegal (R95, R298): what is rejected, by name, is a number that is no word of
the CORE. -/

namespace Sys2Proof

/-- Bits `[lo + len - 1 : lo]` of a word (R8). -/
abbrev field {n : Nat} (v : BitVec n) (lo len : Nat) : BitVec len := v.extractLsb' lo len

/-- Format S-RT, by rrr = b[2:0] (R84). -/
def decodeRealtime (r : U3) : Instr :=
  if r = 0b000#3 then .rtClock
  else if r = 0b001#3 then .rtUndefF9
  else if r = 0b010#3 then .rtStart
  else if r = 0b011#3 then .rtContinue
  else if r = 0b100#3 then .rtStop
  else if r = 0b101#3 then .rtUndefFd
  else if r = 0b110#3 then .rtActiveSensing
  else .rtSystemReset

/-- Format S-SYS, by sss = b[2:0] (R83). -/
def decodeSystem (k : U3) : Instr :=
  if k = 0b000#3 then .stSysexStart
  else if k = 0b001#3 then .stMtcQuarterFrame
  else if k = 0b010#3 then .stSongPosition
  else if k = 0b011#3 then .stSongSelect
  else if k = 0b100#3 then .stUndefF4
  else if k = 0b101#3 then .stUndefF5
  else if k = 0b110#3 then .stTuneRequest
  else .stSysexEnd

/-- Format S-CH, by b[7:4] in 0x8 to 0xE, with the channel b[3:0] (R82, R88). The nibble 0xF never comes here. -/
def decodeChannelVoice (h : U4) (c : U4) : Instr :=
  if h = 0x8#4 then .stNoteOff c
  else if h = 0x9#4 then .stNoteOn c
  else if h = 0xA#4 then .stPolyAt c
  else if h = 0xB#4 then .stControlChange c
  else if h = 0xC#4 then .stProgramChange c
  else if h = 0xD#4 then .stChannelAt c
  else .stPitchBend c

/-- A data byte in AW1, by MSG (R160). -/
def decodeFirstData (msg : Byte) (d : U7) : Instr :=
  if msg = 0xC0#8 then .dAw1ProgramChange d
  else if msg = 0xD0#8 then .dAw1ChannelAt d
  else if msg = 0xF1#8 then .dAw1MtcQuarterFrame (field d 4 3) (field d 0 4)
  else if msg = 0xF3#8 then .dAw1SongSelect d
  else if msg = 0x80#8 then .dAw1NoteOff1 d
  else if msg = 0x90#8 then .dAw1NoteOn1 d
  else if msg = 0xA0#8 then .dAw1PolyAt1 d
  else if msg = 0xB0#8 then .dAw1ControlChange1 d
  else if msg = 0xE0#8 then .dAw1PitchBend1 d
  else if msg = 0xF2#8 then .dAw1SongPosition1 d
  else if msg = 0xF0#8 then (if d = 0#7 then .dAw1SysexIdZero else .dAw1SysexIdByte d)
  else if msg = 0xF4#8 ∨ msg = 0xF5#8 ∨ msg = 0xF6#8 ∨ msg = 0xF7#8 then .dAw1UndefinedKind d
  else .dUnreachable d

/-- The controller or mode choice, on the control number held in PEND (R94, R184). Which code of 0x78 to 0x7F other
than 0x7B is which mode event is the spec's decision D11 (log entry 9, unsafe). -/
def decodeControl (pend : U7) (d : U7) : Instr :=
  if field pend 3 4 = 0b1111#4 then
    (if field pend 0 3 = 0b000#3 then .dAw2AllSoundOff d
    else if field pend 0 3 = 0b001#3 then .dAw2ResetAllControllers d
    else if field pend 0 3 = 0b010#3 then .dAw2LocalControl d
    else if field pend 0 3 = 0b011#3 then .dAw2AllNotesOff d
    else if field pend 0 3 = 0b100#3 then .dAw2OmniOff d
    else if field pend 0 3 = 0b101#3 then .dAw2OmniOn d
    else if field pend 0 3 = 0b110#3 then .dAw2MonoMode d
    else .dAw2PolyMode d)
  else .dAw2ControlChange d

/-- A data byte in AW2, by MSG (R180). -/
def decodeSecondData (msg : Byte) (pend : U7) (d : U7) : Instr :=
  if msg = 0x80#8 then .dAw2NoteOff d
  else if msg = 0x90#8 then .dAw2NoteOn d
  else if msg = 0xA0#8 then .dAw2PolyAt d
  else if msg = 0xB0#8 then decodeControl pend d
  else if msg = 0xE0#8 then .dAw2PitchBend d
  else if msg = 0xF2#8 then .dAw2SongPosition d
  else .dAw2Unreachable d

/-- Format D: the context selects the meaning (R85, R160). -/
def decodeData (c : Context) (d : U7) : Instr :=
  match c.phase with
  | .idle => .dIdle d
  | .aw1 => decodeFirstData c.msg d
  | .aw2 => decodeSecondData c.msg c.pend d
  | .awsx => .dAwsxSysexIdLow d
  | .sxd => .dSxdSysexData d
  | .code5 => .dUnreachable d
  | .code6 => .dUnreachable d
  | .code7 => .dUnreachable d

/-- The decode order of R81: realtime, then status, then data. Only a data byte looks at the context. -/
def decodeByte (c : Context) (b : Byte) : Instr :=
  if field b 3 5 = 0b11111#5 then decodeRealtime (field b 0 3)
  else if field b 7 1 = 0b1#1 then
    (if field b 4 4 = 0xF#4 then decodeSystem (field b 0 3)
    else decodeChannelVoice (field b 4 4) (field b 0 4))
  else decodeData c (field b 0 7)

/-- The eight pieces of UPDATE (R100, R241). -/
def decodePiece (p : U3) (n : U4) : Instr :=
  if p = 0#3 then .tcP0 n
  else if p = 1#3 then .tcP1 n
  else if p = 2#3 then .tcP2 n
  else if p = 3#3 then .tcP3 n
  else if p = 4#3 then .tcP4 n
  else if p = 5#3 then .tcP5 n
  else if p = 6#3 then .tcP6 n
  else .tcP7 n

/-- The dispatch of a TCA operation word on tc_op (R99, R101, R241). -/
def decodeTc (w : TcWord) (ld : LoadPorts) : Instr :=
  if field w 7 2 = 0b00#2 then .tcNop (field w 0 7)
  else if field w 7 2 = 0b01#2 then decodePiece (field w 4 3) (field w 0 4)
  else if field w 7 2 = 0b10#2 then .tcLoad (field w 0 7) ld
  else .tcRsvd (field w 0 7)

/-- The decoder: an instruction for every word in every context (R298). -/
def decode (c : Context) : OpWord → Instr
  | .dec b => decodeByte c b
  | .tca w ld => decodeTc w ld

/-- All load inputs zero: what the encoder gives beside a word that does not read them. -/
def LoadPorts.zero : LoadPorts := ⟨0#5, 0#6, 0#6, 0#5, 0#2⟩

/-- Why a number is no word of the CORE. -/
inductive DecodeError
  /-- Neither 8 bits (a DEC byte) nor 9 bits, whole bytes 16 (a TCA word). -/
  | noSuchWidth (nbits : Nat)
  /-- A bit is set above the width. -/
  | bitsAboveWidth (nbits w : Nat)
  deriving DecidableEq, Repr

/-- The word with bits `w`, numbered as the opcode table numbers them, in a row of `nbits` bits: 8 for DEC; 9, or 16
in whole bytes, for TCA. The load inputs, to which the table gives no bits, are zero. -/
def wordOfTable (nbits w : Nat) : Except DecodeError OpWord :=
  if nbits = 8 then
    (if w < 2 ^ 8 then .ok (.dec (BitVec.ofNat 8 w)) else .error (.bitsAboveWidth nbits w))
  else if nbits = 9 ∨ nbits = 16 then
    (if w < 2 ^ 9 then .ok (.tca (BitVec.ofNat 9 w) LoadPorts.zero) else .error (.bitsAboveWidth nbits w))
  else .error (.noSuchWidth nbits)

/-- The context after reset (R52): PHASE = IDLE, MSG and PEND zero. -/
def Context.afterReset : Context := ⟨.idle, 0x00#8, 0#7⟩

/-- The instruction the decoder reads from a table word, in the context after reset. The 32 data-byte rows share one
byte pattern (R85), so of them only D.IDLE is read here; the others are read in their own contexts by decode (log
entry 11). -/
def decodeTableWord (nbits w : Nat) : Option Instr :=
  match wordOfTable nbits w with
  | .ok word => some (decode Context.afterReset word)
  | .error _ => none

/-- The words of an instruction, from the encoding column of the opcode table. -/
def encode : Instr → OpWord
  | .rtClock => .dec 0xF8#8
  | .rtUndefF9 => .dec 0xF9#8
  | .rtStart => .dec 0xFA#8
  | .rtContinue => .dec 0xFB#8
  | .rtStop => .dec 0xFC#8
  | .rtUndefFd => .dec 0xFD#8
  | .rtActiveSensing => .dec 0xFE#8
  | .rtSystemReset => .dec 0xFF#8
  | .stNoteOff c => .dec (0x8#4 ++ c)
  | .stNoteOn c => .dec (0x9#4 ++ c)
  | .stPolyAt c => .dec (0xA#4 ++ c)
  | .stControlChange c => .dec (0xB#4 ++ c)
  | .stProgramChange c => .dec (0xC#4 ++ c)
  | .stChannelAt c => .dec (0xD#4 ++ c)
  | .stPitchBend c => .dec (0xE#4 ++ c)
  | .stSysexStart => .dec 0xF0#8
  | .stMtcQuarterFrame => .dec 0xF1#8
  | .stSongPosition => .dec 0xF2#8
  | .stSongSelect => .dec 0xF3#8
  | .stUndefF4 => .dec 0xF4#8
  | .stUndefF5 => .dec 0xF5#8
  | .stTuneRequest => .dec 0xF6#8
  | .stSysexEnd => .dec 0xF7#8
  | .dIdle d => .dec (0b0#1 ++ d)
  | .dAw1ProgramChange d => .dec (0b0#1 ++ d)
  | .dAw1ChannelAt d => .dec (0b0#1 ++ d)
  | .dAw1MtcQuarterFrame p n => .dec (0b0#1 ++ (p ++ n))
  | .dAw1SongSelect d => .dec (0b0#1 ++ d)
  | .dAw1NoteOff1 d => .dec (0b0#1 ++ d)
  | .dAw1NoteOn1 d => .dec (0b0#1 ++ d)
  | .dAw1PolyAt1 d => .dec (0b0#1 ++ d)
  | .dAw1ControlChange1 d => .dec (0b0#1 ++ d)
  | .dAw1PitchBend1 d => .dec (0b0#1 ++ d)
  | .dAw1SongPosition1 d => .dec (0b0#1 ++ d)
  | .dAw1UndefinedKind d => .dec (0b0#1 ++ d)
  | .dUnreachable d => .dec (0b0#1 ++ d)
  | .dAw2NoteOff d => .dec (0b0#1 ++ d)
  | .dAw2NoteOn d => .dec (0b0#1 ++ d)
  | .dAw2PolyAt d => .dec (0b0#1 ++ d)
  | .dAw2ControlChange d => .dec (0b0#1 ++ d)
  | .dAw2AllSoundOff d => .dec (0b0#1 ++ d)
  | .dAw2ResetAllControllers d => .dec (0b0#1 ++ d)
  | .dAw2LocalControl d => .dec (0b0#1 ++ d)
  | .dAw2AllNotesOff d => .dec (0b0#1 ++ d)
  | .dAw2OmniOff d => .dec (0b0#1 ++ d)
  | .dAw2OmniOn d => .dec (0b0#1 ++ d)
  | .dAw2MonoMode d => .dec (0b0#1 ++ d)
  | .dAw2PolyMode d => .dec (0b0#1 ++ d)
  | .dAw2PitchBend d => .dec (0b0#1 ++ d)
  | .dAw2SongPosition d => .dec (0b0#1 ++ d)
  | .dAw2Unreachable d => .dec (0b0#1 ++ d)
  | .dAw1SysexIdByte d => .dec (0b0#1 ++ d)
  | .dAw1SysexIdZero => .dec 0x00#8
  | .dAwsxSysexIdLow d => .dec (0b0#1 ++ d)
  | .dSxdSysexData d => .dec (0b0#1 ++ d)
  | .tcNop x => .tca (0b00#2 ++ x) LoadPorts.zero
  | .tcP0 n => .tca (0b01000#5 ++ n) LoadPorts.zero
  | .tcP1 n => .tca (0b01001#5 ++ n) LoadPorts.zero
  | .tcP2 n => .tca (0b01010#5 ++ n) LoadPorts.zero
  | .tcP3 n => .tca (0b01011#5 ++ n) LoadPorts.zero
  | .tcP4 n => .tca (0b01100#5 ++ n) LoadPorts.zero
  | .tcP5 n => .tca (0b01101#5 ++ n) LoadPorts.zero
  | .tcP6 n => .tca (0b01110#5 ++ n) LoadPorts.zero
  | .tcP7 n => .tca (0b01111#5 ++ n) LoadPorts.zero
  | .tcLoad x ld => .tca (0b10#2 ++ x) ld
  | .tcRsvd x => .tca (0b11#2 ++ x) LoadPorts.zero

end Sys2Proof
end

