-- ==== Sys2Proof/Config.lean ====
section
/-! DEFINITION. The one implementation parameter of the spec that is a value and not a width (00_scope.md R7). The
spec leaves no value undefined, so there is no free value here. -/

namespace Sys2Proof

/-- TC_DEFAULT_RATE, the reset value of RATE: 00, Film (R7, R44, R53). UNVERIFIED: the source fixes only that it is
not drop-frame (10), and 00 is the spec's decision D16 (log entry 5, unsafe). -/
def Config.tcDefaultRate : BitVec 2 := 0b00#2

end Sys2Proof
end

