-- ==== Sys2Proof/Machine/State.lean ====
section
/-! DEFINITION. The state of the CORE: the nine registers of 10_state.md, what the latest step emitted, and what the
host has presented. Its reset value, and the reasons a step could stop for (the spec gives none). -/

namespace Sys2Proof.Machine

/-- MidiEvent, the 28 kinds of R47 in the order of their kind codes. -/
inductive MidiEvent
  | noteOff (channel : U4) (key velocity : U7)
  | noteOn (channel : U4) (key velocity : U7)
  | polyphonicAfterTouch (channel : U4) (key pressure : U7)
  | controllerChange (channel : U4) (controller value : U7)
  | programChange (channel : U4) (program : U7)
  | channelAfterTouch (channel : U4) (pressure : U7)
  /-- The amount is an integer of s14, -8192 to 8191 (R9, R91). -/
  | pitchBend (channel : U4) (amount : Int)
  | allSoundOff
  | resetAllControllers
  | allNotesOff (channel : U4)
  | localControl (channel : U4) (on : Bool)
  | omniMode (channel : U4) (on : Bool)
  | monoMode (channel : U4) (channelCount : U7)
  | polyphonicMode (channel : U4)
  | mtcQuarterFrame (piece : U3) (nibble : U4)
  | songPositionPointer (beats : U14)
  | songSelect (song : U7)
  | tuneRequest
  | clock
  | start
  | continue_
  | stop
  | activeSensing
  | systemReset
  /-- SystemExclusiveStart(Byte(id)). -/
  | systemExclusiveStartByte (id : U7)
  /-- SystemExclusiveStart(Word(id)). -/
  | systemExclusiveStartWord (id : U14)
  | systemExclusiveData (data : U7)
  | systemExclusiveEnd
  deriving DecidableEq, Repr

/-- The four registers of DEC (R30 to R34). -/
structure Dec where
  /-- PHASE (R31). -/
  phase : Phase
  /-- MSG (R32). -/
  msg : Byte
  /-- CH (R33). -/
  ch : U4
  /-- PEND (R34). -/
  pend : U7
  deriving DecidableEq, Repr

/-- The five registers of TCA (R39 to R44). -/
structure Tca where
  /-- HOUR (R43). -/
  hour : BitVec 5
  /-- MINUTE (R42). -/
  minute : BitVec 6
  /-- SECOND (R41). -/
  second : BitVec 6
  /-- FRAME (R40). -/
  frame : BitVec 5
  /-- RATE, the selector code (R44, R253). -/
  rate : BitVec 2
  deriving DecidableEq, Repr

/-- The machine. dec and tca are all the state the spec gives it (R16); event and inputs are the model's own: the
output of the latest step (log entry 2) and what the host has presented and no step has taken (log entry 1). -/
structure State where
  dec    : Dec
  tca    : Tca
  event  : Option MidiEvent
  inputs : List Input
  deriving DecidableEq, Repr

/-- No step of the CORE faults (R280, R298), so there is no fault to name. -/
inductive Fault
  deriving DecidableEq, Repr

/-- No step of the CORE is refused (R280, R298). -/
inductive Refusal
  /-- The answer of exec's arm for an instruction without a meaning; no arm gives it. Safe. -/
  | notModelled (mnemonic : String)
  deriving DecidableEq, Repr

/-- DEC after reset: <IDLE, 00, 0, 00> (R52, R310). The three zeros are the spec's decision D5 (log entry 4). -/
def Dec.reset : Dec := ⟨.idle, 0x00#8, 0x0#4, 0x00#7⟩

/-- TCA after reset: (0, 0, 0, 0, TC_DEFAULT_RATE) (R53, R311). -/
def Tca.reset : Tca := ⟨0#5, 0#6, 0#6, 0#5, Config.tcDefaultRate⟩

/-- The machine right after reset: both blocks reset, nothing emitted, nothing presented. -/
def State.reset : State := ⟨Dec.reset, Tca.reset, none, []⟩

end Sys2Proof.Machine
end

