-- ==== Sys2Proof/Machine/Operands.lean ====
section
/-! DEFINITION. The operand forms (30_encoding.md R88 to R94) that an instruction builds from its fields and the
registers. The fields themselves are cut out by the decoder. -/

namespace Sys2Proof.Machine

/-- u14(msb, lsb) = (msb << 7) | lsb: msb in bits 13:7, lsb in bits 6:0 (R9, R90). -/
def u14 (msb lsb : U7) : U14 := msb ++ lsb

/-- The pitch-bend centre, 0x2000 (R91). -/
def pitchCentre : Int := 0x2000

/-- The pitch-bend amount: the raw 14-bit value less the centre, exact in the integers (R91, R106). The sign
convention is the spec's decision D8 (log entry 8, unsafe). -/
def pitchAmount (msb lsb : U7) : Int := ((u14 msb lsb).toNat : Int) - pitchCentre

/-- The 14-bit value of a message with two data bytes: the first byte, held in PEND, is the low part and the second
the high part (R62). -/
def wireValue (pend d : U7) : U14 := u14 d pend

/-- The two-byte SysEx ID: the held first byte is the high part and the second the low part, the reverse of
wireValue (R64, R223). The order is the spec's decision D12 (log entry 8, unsafe). -/
def sysexWordId (pend d : U7) : U14 := u14 pend d

/-- LocalControl's on: the value byte is not zero (R188). -/
def localOn (d : U7) : Bool := decide (d ≠ 0#7)

/-- The cleared value of CH and PEND, 0. It is the spec's decision D4 (log entry 4). -/
def clearedChannel : U4 := 0#4

/-- See clearedChannel. -/
def clearedPend : U7 := 0#7

/-- The kind a channel-voice status byte puts into MSG: its high nibble in place, b & 0xF0 (R32, R82). -/
def channelKind (h : U4) : Byte := h ++ 0x0#4

end Sys2Proof.Machine
end

