-- ==== Sys2Proof/Machine/Ops.lean ====
section
/-! DEFINITION. The operations the meanings share: emitting, writing a register of DEC, the realtime service, the
resynchronisation, holding and completing a message, the nibble write of TCA, and taking the host's next input. There
is no memory and no exception (20_memory.md R60, 60_exceptions.md R280): the realtime service stands where taking an
exception and returning from it stand in other machines (60_exceptions.md R289, R290). -/

namespace Sys2Proof.Machine

/-- What a meaning answers. -/
abbrev Result := Host.Outcome State Fault Refusal

/-- The registers a data byte is decoded by (R14, R94). -/
def Dec.context (d : Dec) : Context := ⟨d.phase, d.msg, d.pend⟩

/-- `emit e`: the step's output is e, or empty (R10). -/
def State.emit (e : Option MidiEvent) (s : State) : State := { s with event := e }

/-- `PHASE <- p` (R10). -/
def State.setPhase (p : Phase) (s : State) : State := { s with dec := { s.dec with phase := p } }

/-- `PEND <- v` (R10). -/
def State.setPend (v : U7) (s : State) : State := { s with dec := { s.dec with pend := v } }

/-- The register writes of every status byte 0x80 to 0xF7: PHASE <- AW1, MSG <- m, CH <- c, PEND cleared. No old
value is read (R130, R146). -/
def State.startMessage (m : Byte) (c : U4) (s : State) : State :=
  { s with dec := { phase := .aw1, msg := m, ch := c, pend := clearedPend } }

/-- DEC's rst at a clock edge (R312). -/
def State.resetDec (s : State) : State := { s with dec := Dec.reset, event := none }

/-- TCA's rst at a clock edge (R312). -/
def State.resetTca (s : State) : State := { s with tca := Tca.reset, event := none }

/-- A realtime byte is served: its event is emitted and no register is written (R110, R289). Nothing was displaced,
so there is nothing to return from (R290). -/
def serveRealtime (e : Option MidiEvent) (s : State) : Result := .next (s.emit e)

/-- A status byte: resynchronise, and emit what it completes by itself (R130). -/
def resynchronise (m : Byte) (c : U4) (e : Option MidiEvent) (s : State) : Result :=
  .next ((s.startMessage m c).emit e)

/-- A byte without a meaning: consumed, no event, no register written (R97, R281, R282). -/
def absorb (s : State) : Result := .next (s.emit none)

/-- A data byte that is a whole event by itself and leaves every register alone (R162 to R165, R224). -/
def reportEvent (e : MidiEvent) (s : State) : Result := .next (s.emit (some e))

/-- The first data byte of two: PEND <- d, PHASE <- AW2, no event (R166 to R171). -/
def holdFirst (d : U7) (s : State) : Result := .next (((s.setPend d).setPhase .aw2).emit none)

/-- The second data byte of two: the event, and PHASE <- AW1 (R180). PEND keeps the first byte (R198). -/
def completeMessage (e : MidiEvent) (s : State) : Result := .next ((s.setPhase .aw1).emit (some e))

/-- The manufacturer ID is complete: the Start event, and PHASE <- SXD (R221, R223). -/
def openSysex (e : MidiEvent) (s : State) : Result := .next ((s.setPhase .sxd).emit (some e))

/-- The zero ID byte: PEND <- 0, PHASE <- AWSX, no event (R222). -/
def awaitSysexLowByte (s : State) : Result := .next (((s.setPend 0#7).setPhase .awsx).emit none)

/-- Bits 3:0 of a 5-bit field replaced (R242, R248). -/
def setLow5 (r : BitVec 5) (v : U4) : BitVec 5 := field r 4 1 ++ v

/-- Bit 4 of a 5-bit field replaced by v[0] (R243, R249). -/
def setHigh5 (r : BitVec 5) (v : U4) : BitVec 5 := field v 0 1 ++ field r 0 4

/-- Bits 3:0 of a 6-bit field replaced (R244, R246). -/
def setLow6 (r : BitVec 6) (v : U4) : BitVec 6 := field r 4 2 ++ v

/-- Bits 5:4 of a 6-bit field replaced by v[1:0] (R245, R247). -/
def setHigh6 (r : BitVec 6) (v : U4) : BitVec 6 := field v 0 2 ++ field r 0 4

/-- NibWrite(a, v), the nibble map of R61; a piece index outside 0 to 7 is ignored (R250, R284). -/
def nibWrite (a : Nat) (v : U4) (t : Tca) : Tca :=
  match a with
  | 0 => { t with frame := setLow5 t.frame v }
  | 1 => { t with frame := setHigh5 t.frame v }
  | 2 => { t with second := setLow6 t.second v }
  | 3 => { t with second := setHigh6 t.second v }
  | 4 => { t with minute := setLow6 t.minute v }
  | 5 => { t with minute := setHigh6 t.minute v }
  | 6 => { t with hour := setLow5 t.hour v }
  | 7 => { t with hour := setHigh5 t.hour v, rate := field v 1 2 }
  | _ => t

/-- UPDATE with piece a: the nibble write, no output (R240, R241). -/
def updateTca (a : Nat) (n : U4) (s : State) : Result := .next ({ s with tca := nibWrite a n s.tca }.emit none)

/-- LOAD: all five registers from the load inputs (R251). -/
def loadTca (ld : LoadPorts) (s : State) : Result :=
  .next ({ s with tca := ⟨ld.hour, ld.minute, ld.second, ld.frame, ld.rate⟩ }.emit none)

/-- What a step finds to do: an instruction, in the state without its word; or nothing to execute, and the state the
step ends in. -/
inductive Fetched
  | run (i : Instr) (s : State)
  | done (s : State)
  deriving DecidableEq, Repr

/-- Take the host's next input (R60, R70): an instruction is decoded in the context of the registers as they stand
(R85); an asserted rst resets its block (R312); with nothing presented the registers hold and nothing is emitted
(R49, R297). -/
def fetch (s : State) : Fetched :=
  match s.inputs with
  | [] => .done (s.emit none)
  | .op w :: rest => .run (decode s.dec.context w) { s with inputs := rest }
  | .decReset :: rest => .done { s with inputs := rest }.resetDec
  | .tcaReset :: rest => .done { s with inputs := rest }.resetTca

/-- The host presents x, to be taken by the next step. -/
def State.present (s : State) (x : Input) : State := { s with inputs := x :: s.inputs }

end Sys2Proof.Machine
end

