-- ==== Sys2Proof/Machine/DataFirst.lean ====
section
/-! DEFINITION. The meanings of a data byte in IDLE and in AW1, less the SysEx ID (42_data_first.md R160 to R173). A row is executed in its own context only: the decoder chose it by the registers. -/

namespace Sys2Proof.Machine

/-- D.IDLE (R161): no status byte was seen yet: ignored. -/
def execDIdle (_d : U7) (s : State) : Result := absorb s

/-- D.AW1.PROGRAM_CHANGE (R162): ProgramChange(CH, d). -/
def execDAw1ProgramChange (d : U7) (s : State) : Result := reportEvent (.programChange s.dec.ch d) s

/-- D.AW1.CHANNEL_AT (R163): ChannelAfterTouch(CH, d). -/
def execDAw1ChannelAt (d : U7) (s : State) : Result := reportEvent (.channelAfterTouch s.dec.ch d) s

/-- D.AW1.MTC_QUARTER_FRAME (R164): MTCQuarterFrame(p, n); TCA is not told (decision D9, log entry 10). -/
def execDAw1MtcQuarterFrame (p : U3) (n : U4) (s : State) : Result := reportEvent (.mtcQuarterFrame p n) s

/-- D.AW1.SONG_SELECT (R165): SongSelect(d). -/
def execDAw1SongSelect (d : U7) (s : State) : Result := reportEvent (.songSelect d) s

/-- D.AW1.NOTE_OFF.1 (R166): the key is held. -/
def execDAw1NoteOff1 (d : U7) (s : State) : Result := holdFirst d s

/-- D.AW1.NOTE_ON.1 (R167): the key is held. -/
def execDAw1NoteOn1 (d : U7) (s : State) : Result := holdFirst d s

/-- D.AW1.POLY_AT.1 (R168): the key is held. -/
def execDAw1PolyAt1 (d : U7) (s : State) : Result := holdFirst d s

/-- D.AW1.CONTROL_CHANGE.1 (R169): the control number is held, and not examined yet. -/
def execDAw1ControlChange1 (d : U7) (s : State) : Result := holdFirst d s

/-- D.AW1.PITCH_BEND.1 (R170): the low 7 bits are held. -/
def execDAw1PitchBend1 (d : U7) (s : State) : Result := holdFirst d s

/-- D.AW1.SONG_POSITION.1 (R171): the low 7 bits are held. -/
def execDAw1SongPosition1 (d : U7) (s : State) : Result := holdFirst d s

/-- D.AW1.UNDEFINED_KIND (R172): after 0xF4 to 0xF7, absorbed (decision D7, log entry 4). -/
def execDAw1UndefinedKind (_d : U7) (s : State) : Result := absorb s

/-- D.UNREACHABLE (R173): a context no stream reaches, absorbed (decision D20, log entry 4). -/
def execDUnreachable (_d : U7) (s : State) : Result := absorb s

end Sys2Proof.Machine
end

