-- ==== Sys2Proof/Machine/DataSecond.lean ====
section
/-! DEFINITION. The meanings of a data byte in AW2 (43_data_second.md R180 to R198). -/

namespace Sys2Proof.Machine

/-- D.AW2.NOTE_OFF (R181): NoteOff(CH, PEND, d). -/
def execDAw2NoteOff (d : U7) (s : State) : Result := completeMessage (.noteOff s.dec.ch s.dec.pend d) s

/-- D.AW2.NOTE_ON (R182): NoteOn(CH, PEND, d), with velocity 0 too (decision D22, log entry 8). -/
def execDAw2NoteOn (d : U7) (s : State) : Result := completeMessage (.noteOn s.dec.ch s.dec.pend d) s

/-- D.AW2.POLY_AT (R183): PolyphonicAfterTouch(CH, PEND, d). -/
def execDAw2PolyAt (d : U7) (s : State) : Result := completeMessage (.polyphonicAfterTouch s.dec.ch s.dec.pend d) s

/-- D.AW2.CONTROL_CHANGE (R185): ControllerChange(CH, PEND, d), PEND below 0x78. -/
def execDAw2ControlChange (d : U7) (s : State) : Result := completeMessage (.controllerChange s.dec.ch s.dec.pend d) s

/-- D.AW2.ALL_SOUND_OFF (R186): AllSoundOff, without a channel; d is not reported. -/
def execDAw2AllSoundOff (_d : U7) (s : State) : Result := completeMessage .allSoundOff s

/-- D.AW2.RESET_ALL_CONTROLLERS (R187): ResetAllControllers, without a channel; nothing of DEC is reset. -/
def execDAw2ResetAllControllers (_d : U7) (s : State) : Result := completeMessage .resetAllControllers s

/-- D.AW2.LOCAL_CONTROL (R188): LocalControl(CH, d not zero). -/
def execDAw2LocalControl (d : U7) (s : State) : Result := completeMessage (.localControl s.dec.ch (localOn d)) s

/-- D.AW2.ALL_NOTES_OFF (R189): AllNotesOff(CH). -/
def execDAw2AllNotesOff (_d : U7) (s : State) : Result := completeMessage (.allNotesOff s.dec.ch) s

/-- D.AW2.OMNI_OFF (R190): OmniMode(CH, off); the value byte is not looked at. -/
def execDAw2OmniOff (_d : U7) (s : State) : Result := completeMessage (.omniMode s.dec.ch false) s

/-- D.AW2.OMNI_ON (R191): OmniMode(CH, on); the value byte is not looked at. -/
def execDAw2OmniOn (_d : U7) (s : State) : Result := completeMessage (.omniMode s.dec.ch true) s

/-- D.AW2.MONO_MODE (R192): MonoMode(CH, d). -/
def execDAw2MonoMode (d : U7) (s : State) : Result := completeMessage (.monoMode s.dec.ch d) s

/-- D.AW2.POLY_MODE (R193): PolyphonicMode(CH). -/
def execDAw2PolyMode (_d : U7) (s : State) : Result := completeMessage (.polyphonicMode s.dec.ch) s

/-- D.AW2.PITCH_BEND (R194): PitchBend(CH, ((d << 7) | PEND) - 0x2000). -/
def execDAw2PitchBend (d : U7) (s : State) : Result := completeMessage (.pitchBend s.dec.ch (pitchAmount d s.dec.pend)) s

/-- D.AW2.SONG_POSITION (R195): SongPositionPointer((d << 7) | PEND). -/
def execDAw2SongPosition (d : U7) (s : State) : Result := completeMessage (.songPositionPointer (wireValue s.dec.pend d)) s

/-- D.AW2.UNREACHABLE (R197): a context no stream reaches: absorbed, PHASE stays AW2 (decision D20, log entry 4). -/
def execDAw2Unreachable (_d : U7) (s : State) : Result := absorb s

end Sys2Proof.Machine
end

