-- ==== Sys2Proof/Machine/Realtime.lean ====
section
/-! DEFINITION. The meanings of the eight system-realtime bytes (40_realtime.md R110 to R118): served whatever the state, nothing written. -/

namespace Sys2Proof.Machine

/-- RT.CLOCK (R111): Clock; DEC counts nothing. -/
def execRtClock (s : State) : Result := serveRealtime (some .clock) s

/-- RT.UNDEF_F9 (R112): reserved, dropped silently; it does not resynchronise. -/
def execRtUndefF9 (s : State) : Result := serveRealtime none s

/-- RT.START (R113): Start; DEC keeps no transport state. -/
def execRtStart (s : State) : Result := serveRealtime (some .start) s

/-- RT.CONTINUE (R114): Continue. -/
def execRtContinue (s : State) : Result := serveRealtime (some .continue_) s

/-- RT.STOP (R115): Stop. -/
def execRtStop (s : State) : Result := serveRealtime (some .stop) s

/-- RT.UNDEF_FD (R116): reserved, dropped silently. -/
def execRtUndefFd (s : State) : Result := serveRealtime none s

/-- RT.ACTIVE_SENSING (R117): ActiveSensing; there is no time-out. -/
def execRtActiveSensing (s : State) : Result := serveRealtime (some .activeSensing) s

/-- RT.SYSTEM_RESET (R118): reported, not obeyed: no register of DEC or TCA is reset (R313). -/
def execRtSystemReset (s : State) : Result := serveRealtime (some .systemReset) s

end Sys2Proof.Machine
end

