-- ==== Sys2Proof/Machine/Status.lean ====
section
/-! DEFINITION. The meanings of the fifteen status bytes 0x80 to 0xF7 (41_status.md R130 to R145): each resynchronises, whatever was in progress. -/

namespace Sys2Proof.Machine

/-- ST.NOTE_OFF (R131): MSG <- 0x80, CH <- c. -/
def execStNoteOff (c : U4) (s : State) : Result := resynchronise (channelKind 0x8#4) c none s

/-- ST.NOTE_ON (R132): MSG <- 0x90, CH <- c. -/
def execStNoteOn (c : U4) (s : State) : Result := resynchronise (channelKind 0x9#4) c none s

/-- ST.POLY_AT (R133): MSG <- 0xA0, CH <- c. -/
def execStPolyAt (c : U4) (s : State) : Result := resynchronise (channelKind 0xA#4) c none s

/-- ST.CONTROL_CHANGE (R134): MSG <- 0xB0, CH <- c. -/
def execStControlChange (c : U4) (s : State) : Result := resynchronise (channelKind 0xB#4) c none s

/-- ST.PROGRAM_CHANGE (R135): MSG <- 0xC0, CH <- c. -/
def execStProgramChange (c : U4) (s : State) : Result := resynchronise (channelKind 0xC#4) c none s

/-- ST.CHANNEL_AT (R136): MSG <- 0xD0, CH <- c. -/
def execStChannelAt (c : U4) (s : State) : Result := resynchronise (channelKind 0xD#4) c none s

/-- ST.PITCH_BEND (R137): MSG <- 0xE0, CH <- c. -/
def execStPitchBend (c : U4) (s : State) : Result := resynchronise (channelKind 0xE#4) c none s

/-- ST.SYSEX_START (R138): no event at the byte itself. -/
def execStSysexStart (s : State) : Result := resynchronise 0xF0#8 clearedChannel none s

/-- ST.MTC_QUARTER_FRAME (R139): one data byte follows. -/
def execStMtcQuarterFrame (s : State) : Result := resynchronise 0xF1#8 clearedChannel none s

/-- ST.SONG_POSITION (R140): two data bytes follow. -/
def execStSongPosition (s : State) : Result := resynchronise 0xF2#8 clearedChannel none s

/-- ST.SONG_SELECT (R141): one data byte follows. -/
def execStSongSelect (s : State) : Result := resynchronise 0xF3#8 clearedChannel none s

/-- ST.UNDEF_F4 (R142): no message is defined; it resynchronises like any other status byte. -/
def execStUndefF4 (s : State) : Result := resynchronise 0xF4#8 clearedChannel none s

/-- ST.UNDEF_F5 (R143): as UNDEF_F4. -/
def execStUndefF5 (s : State) : Result := resynchronise 0xF5#8 clearedChannel none s

/-- ST.TUNE_REQUEST (R144): complete by itself; unlike a realtime byte it ends a message in progress. -/
def execStTuneRequest (s : State) : Result := resynchronise 0xF6#8 clearedChannel (some .tuneRequest) s

/-- ST.SYSEX_END (R145): complete by itself, whether or not a block was open (R228). -/
def execStSysexEnd (s : State) : Result := resynchronise 0xF7#8 clearedChannel (some .systemExclusiveEnd) s

end Sys2Proof.Machine
end

