-- ==== Sys2Proof/Machine/Sysex.lean ====
section
/-! DEFINITION. The meanings of a data byte in a System Exclusive block (44_sysex.md R221 to R224). -/

namespace Sys2Proof.Machine

/-- D.AW1.SYSEX_ID_BYTE (R221): a nonzero byte is the whole ID. -/
def execDAw1SysexIdByte (d : U7) (s : State) : Result := openSysex (.systemExclusiveStartByte d) s

/-- D.AW1.SYSEX_ID_ZERO (R222): a zero byte announces a two-byte ID. -/
def execDAw1SysexIdZero (s : State) : Result := awaitSysexLowByte s

/-- D.AWSX.SYSEX_ID_LOW (R223): the second ID byte. -/
def execDAwsxSysexIdLow (d : U7) (s : State) : Result := openSysex (.systemExclusiveStartWord (sysexWordId s.dec.pend d)) s

/-- D.SXD.SYSEX_DATA (R224): one payload byte. -/
def execDSxdSysexData (d : U7) (s : State) : Result := reportEvent (.systemExclusiveData d) s

end Sys2Proof.Machine
end

