-- ==== Sys2Proof/Machine/Timecode.lean ====
section
/-! DEFINITION. The meanings of the TCA operation words (45_timecode.md R241 to R252). -/

namespace Sys2Proof.Machine

/-- TC.NOP (R252): no operation. -/
def execTcNop (_x : U7) (s : State) : Result := absorb s

/-- TC.P0 (R242): FRAME[3:0] <- n. -/
def execTcP0 (n : U4) (s : State) : Result := updateTca 0 n s

/-- TC.P1 (R243): FRAME[4] <- n[0]. -/
def execTcP1 (n : U4) (s : State) : Result := updateTca 1 n s

/-- TC.P2 (R244): SECOND[3:0] <- n. -/
def execTcP2 (n : U4) (s : State) : Result := updateTca 2 n s

/-- TC.P3 (R245): SECOND[5:4] <- n[1:0]. -/
def execTcP3 (n : U4) (s : State) : Result := updateTca 3 n s

/-- TC.P4 (R246): MINUTE[3:0] <- n. -/
def execTcP4 (n : U4) (s : State) : Result := updateTca 4 n s

/-- TC.P5 (R247): MINUTE[5:4] <- n[1:0]. -/
def execTcP5 (n : U4) (s : State) : Result := updateTca 5 n s

/-- TC.P6 (R248): HOUR[3:0] <- n. -/
def execTcP6 (n : U4) (s : State) : Result := updateTca 6 n s

/-- TC.P7 (R249): HOUR[4] <- n[0], RATE <- n[2:1]. -/
def execTcP7 (n : U4) (s : State) : Result := updateTca 7 n s

/-- TC.LOAD (R251): all five registers, unchecked. -/
def execTcLoad (_x : U7) (ld : LoadPorts) (s : State) : Result := loadTca ld s

/-- TC.RSVD (R252): reserved, acts as NOP. -/
def execTcRsvd (_x : U7) (s : State) : Result := absorb s

end Sys2Proof.Machine
end

