-- ==== Sys2Proof/Machine/Dispatch.lean ====
section
/-! DEFINITION. One arm for each constructor of Instr, in the order of spec/opcode_table.json. -/

namespace Sys2Proof.Machine

def exec (i : Instr) (s : State) : Host.Outcome State Fault Refusal :=
  match i with
  | .rtClock => Sys2Proof.Machine.execRtClock s
  | .rtUndefF9 => Sys2Proof.Machine.execRtUndefF9 s
  | .rtStart => Sys2Proof.Machine.execRtStart s
  | .rtContinue => Sys2Proof.Machine.execRtContinue s
  | .rtStop => Sys2Proof.Machine.execRtStop s
  | .rtUndefFd => Sys2Proof.Machine.execRtUndefFd s
  | .rtActiveSensing => Sys2Proof.Machine.execRtActiveSensing s
  | .rtSystemReset => Sys2Proof.Machine.execRtSystemReset s
  | .stNoteOff c => Sys2Proof.Machine.execStNoteOff c s
  | .stNoteOn c => Sys2Proof.Machine.execStNoteOn c s
  | .stPolyAt c => Sys2Proof.Machine.execStPolyAt c s
  | .stControlChange c => Sys2Proof.Machine.execStControlChange c s
  | .stProgramChange c => Sys2Proof.Machine.execStProgramChange c s
  | .stChannelAt c => Sys2Proof.Machine.execStChannelAt c s
  | .stPitchBend c => Sys2Proof.Machine.execStPitchBend c s
  | .stSysexStart => Sys2Proof.Machine.execStSysexStart s
  | .stMtcQuarterFrame => Sys2Proof.Machine.execStMtcQuarterFrame s
  | .stSongPosition => Sys2Proof.Machine.execStSongPosition s
  | .stSongSelect => Sys2Proof.Machine.execStSongSelect s
  | .stUndefF4 => Sys2Proof.Machine.execStUndefF4 s
  | .stUndefF5 => Sys2Proof.Machine.execStUndefF5 s
  | .stTuneRequest => Sys2Proof.Machine.execStTuneRequest s
  | .stSysexEnd => Sys2Proof.Machine.execStSysexEnd s
  | .dIdle d => Sys2Proof.Machine.execDIdle d s
  | .dAw1ProgramChange d => Sys2Proof.Machine.execDAw1ProgramChange d s
  | .dAw1ChannelAt d => Sys2Proof.Machine.execDAw1ChannelAt d s
  | .dAw1MtcQuarterFrame p n => Sys2Proof.Machine.execDAw1MtcQuarterFrame p n s
  | .dAw1SongSelect d => Sys2Proof.Machine.execDAw1SongSelect d s
  | .dAw1NoteOff1 d => Sys2Proof.Machine.execDAw1NoteOff1 d s
  | .dAw1NoteOn1 d => Sys2Proof.Machine.execDAw1NoteOn1 d s
  | .dAw1PolyAt1 d => Sys2Proof.Machine.execDAw1PolyAt1 d s
  | .dAw1ControlChange1 d => Sys2Proof.Machine.execDAw1ControlChange1 d s
  | .dAw1PitchBend1 d => Sys2Proof.Machine.execDAw1PitchBend1 d s
  | .dAw1SongPosition1 d => Sys2Proof.Machine.execDAw1SongPosition1 d s
  | .dAw1UndefinedKind d => Sys2Proof.Machine.execDAw1UndefinedKind d s
  | .dUnreachable d => Sys2Proof.Machine.execDUnreachable d s
  | .dAw2NoteOff d => Sys2Proof.Machine.execDAw2NoteOff d s
  | .dAw2NoteOn d => Sys2Proof.Machine.execDAw2NoteOn d s
  | .dAw2PolyAt d => Sys2Proof.Machine.execDAw2PolyAt d s
  | .dAw2ControlChange d => Sys2Proof.Machine.execDAw2ControlChange d s
  | .dAw2AllSoundOff d => Sys2Proof.Machine.execDAw2AllSoundOff d s
  | .dAw2ResetAllControllers d => Sys2Proof.Machine.execDAw2ResetAllControllers d s
  | .dAw2LocalControl d => Sys2Proof.Machine.execDAw2LocalControl d s
  | .dAw2AllNotesOff d => Sys2Proof.Machine.execDAw2AllNotesOff d s
  | .dAw2OmniOff d => Sys2Proof.Machine.execDAw2OmniOff d s
  | .dAw2OmniOn d => Sys2Proof.Machine.execDAw2OmniOn d s
  | .dAw2MonoMode d => Sys2Proof.Machine.execDAw2MonoMode d s
  | .dAw2PolyMode d => Sys2Proof.Machine.execDAw2PolyMode d s
  | .dAw2PitchBend d => Sys2Proof.Machine.execDAw2PitchBend d s
  | .dAw2SongPosition d => Sys2Proof.Machine.execDAw2SongPosition d s
  | .dAw2Unreachable d => Sys2Proof.Machine.execDAw2Unreachable d s
  | .dAw1SysexIdByte d => Sys2Proof.Machine.execDAw1SysexIdByte d s
  | .dAw1SysexIdZero => Sys2Proof.Machine.execDAw1SysexIdZero s
  | .dAwsxSysexIdLow d => Sys2Proof.Machine.execDAwsxSysexIdLow d s
  | .dSxdSysexData d => Sys2Proof.Machine.execDSxdSysexData d s
  | .tcNop x => Sys2Proof.Machine.execTcNop x s
  | .tcP0 n => Sys2Proof.Machine.execTcP0 n s
  | .tcP1 n => Sys2Proof.Machine.execTcP1 n s
  | .tcP2 n => Sys2Proof.Machine.execTcP2 n s
  | .tcP3 n => Sys2Proof.Machine.execTcP3 n s
  | .tcP4 n => Sys2Proof.Machine.execTcP4 n s
  | .tcP5 n => Sys2Proof.Machine.execTcP5 n s
  | .tcP6 n => Sys2Proof.Machine.execTcP6 n s
  | .tcP7 n => Sys2Proof.Machine.execTcP7 n s
  | .tcLoad x ld => Sys2Proof.Machine.execTcLoad x ld s
  | .tcRsvd x => Sys2Proof.Machine.execTcRsvd x s

end Sys2Proof.Machine
end

