-- ==== Sys2Proof/Machine/Step.lean ====
section
/-! DEFINITION. One step: take the host's next input and run it. A step is a transaction (00_scope.md R6): one byte
to DEC, one operation to TCA, one reset of a block, or nothing. -/

namespace Sys2Proof.Machine

/-- One step of the CORE. -/
def step (s : State) : Host.Outcome State Fault Refusal :=
  match fetch s with
  | .run i t => exec i t
  | .done t => .next t

/-- The table word presented to s, so that the next step takes it. A number that is no word of the CORE is not
presented. A program is presented from outside (log entry 1); the context a data byte is read in is s's own. -/
def State.withFetchWord (s : State) (nbits w : Nat) : State :=
  match Sys2Proof.wordOfTable nbits w with
  | .ok word => s.present (.op word)
  | .error _ => s

end Sys2Proof.Machine
end

