-- ==== Sys2Proof/Machine/Flags.lean ====
section
/-! DEFINITION. The CORE has no flags (10_state.md R38). This file holds what is computed from the TCA registers
alone and stored nowhere: the output df_sep (R51) and the rendering of the timecode (45_timecode.md R258). -/

namespace Sys2Proof.Machine

/-- FILM, 24 fps (R253). -/
def rateFilm : BitVec 2 := 0b00#2
/-- PAL, 25 fps (R253). -/
def ratePal : BitVec 2 := 0b01#2
/-- DF, NTSC drop-frame (R253). -/
def rateDf : BitVec 2 := 0b10#2
/-- NTSC, 30 fps (R253). -/
def rateNtsc : BitVec 2 := 0b11#2

/-- The output df_sep: 1 exactly when RATE = 10 (R51, R253). -/
def dfSep (t : Tca) : Bool := decide (t.rate = rateDf)

/-- One decimal digit. -/
def digit (n : Nat) : Char := Char.ofNat (48 + n % 10)

/-- A field in two decimal digits, zero padded; every field is below 64 (R258). -/
def twoDigits (n : Nat) : List Char := [digit (n / 10), digit n]

/-- The character before the frames: a semicolon for drop-frame, a colon otherwise (R258). -/
def separator (t : Tca) : Char := if dfSep t then ';' else ':'

/-- HH:MM:SS and, after the separator, FF (R258). The spec counts it as no part of the hardware. -/
def render (t : Tca) : List Char :=
  twoDigits t.hour.toNat ++ [':'] ++ twoDigits t.minute.toNat ++ [':'] ++ twoDigits t.second.toNat
    ++ [separator t] ++ twoDigits t.frame.toNat

end Sys2Proof.Machine
end

