-- ==== Sys2Proof/Machine/Run.lean ====
section
/-! DEFINITION. What the host does around single steps: a run of many inputs with its list of outputs
(70_reset_and_hazards.md R324), and the reference composition of DEC and TCA (45_timecode.md R259). -/

namespace Sys2Proof.Machine

/-- Go on with f where o answers a next state. -/
def andThen {α β : Type} (o : Host.Outcome α Fault Refusal) (f : α → Host.Outcome β Fault Refusal) :
    Host.Outcome β Fault Refusal :=
  match o with
  | .next a => f a
  | .fault e => .fault e
  | .refused r => .refused r

/-- A byte presented to DEC. -/
def byteInput (b : Byte) : Input := .op (.dec b)

/-- An UPDATE presented to TCA: tc_op 01, the piece, the nibble (R99). -/
def updateInput (p : U3) (n : U4) : Input := .op (.tca (0b01#2 ++ (p ++ n)) LoadPorts.zero)

/-- A run: the inputs in order, one step each. It answers the output of every step, in order, and the state after the
last (R324). -/
def runInputs : List Input → State → Host.Outcome (List (Option MidiEvent) × State) Fault Refusal
  | [], s => .next ([], s)
  | x :: xs, s => andThen (step (s.present x)) fun t =>
      andThen (runInputs xs t) fun r => .next (t.event :: r.1, r.2)

/-- A run of DEC on a byte stream (R102, R324). -/
def runBytes (bs : List Byte) (s : State) : Host.Outcome (List (Option MidiEvent) × State) Fault Refusal :=
  runInputs (bs.map byteInput) s

/-- The reference composition on one byte: apply the byte to DEC, and if it gives a quarter frame, apply it to TCA as
an UPDATE before anything else (R75, R259). The output is DEC's. -/
def composeByte (b : Byte) (s : State) : Host.Outcome (Option MidiEvent × State) Fault Refusal :=
  andThen (step (s.present (byteInput b))) fun t =>
    match t.event with
    | some (.mtcQuarterFrame p n) => andThen (step (t.present (updateInput p n))) fun u => .next (t.event, u)
    | e => .next (e, t)

/-- The reference composition on a byte stream. -/
def composeBytes : List Byte → State → Host.Outcome (List (Option MidiEvent) × State) Fault Refusal
  | [], s => .next ([], s)
  | b :: bs, s => andThen (composeByte b s) fun t => andThen (composeBytes bs t.2) fun r => .next (t.1 :: r.1, r.2)

end Sys2Proof.Machine
end

