-- ==== Sys2Proof/Machine/Ports.lean ====
section
/-! DEFINITION. The clocked ports of the CORE (10_state.md R49 to R51, 70_reset_and_hazards.md R312), the spec's own
wrapper of the transaction steps: the event port packing, the outputs of a cycle, and the clock edge that ends it.
The wrapper adds no behaviour (00_scope.md R6): every register it writes is written by the meanings. -/

namespace Sys2Proof.Machine

/-- The event output port (R49). -/
structure EventPort where
  valid : Bool
  kind  : BitVec 5
  ch    : BitVec 4
  d1    : BitVec 7
  d2    : BitVec 7
  deriving DecidableEq, Repr

/-- The input ports of both blocks in one clock cycle (R49, R51). -/
structure PortIn where
  decRst  : Bool
  inValid : Bool
  inByte  : Byte
  tcaRst  : Bool
  tcOp    : BitVec 2
  tcPiece : U3
  tcData  : U4
  ld      : LoadPorts
  deriving DecidableEq, Repr

/-- The output ports of both blocks in one clock cycle (R49, R51). -/
structure PortOut where
  event  : EventPort
  hour   : BitVec 5
  minute : BitVec 6
  second : BitVec 6
  frame  : BitVec 5
  rate   : BitVec 2
  dfSep  : Bool
  deriving DecidableEq, Repr

/-- ev_valid = 0 and every other output 0 (R49). -/
def EventPort.idle : EventPort := ⟨false, 0#5, 0#4, 0#7, 0#7⟩

/-- A 14-bit field in the pair of data outputs: d1 the low part, d2 the high part (R50). -/
def wide (kind : BitVec 5) (ch : BitVec 4) (w : BitVec 14) : EventPort := ⟨true, kind, ch, field w 0 7, field w 7 7⟩

/-- `on` in bit 0, bits 6:1 zero (R50). -/
def onBit (on : Bool) : BitVec 7 := if on then 1#7 else 0#7

/-- Event port packing (R47, R50). Every output the kind does not name is 0. -/
def packEvent : MidiEvent → EventPort
  | .noteOff c k v => ⟨true, 0#5, c, k, v⟩
  | .noteOn c k v => ⟨true, 1#5, c, k, v⟩
  | .polyphonicAfterTouch c k p => ⟨true, 2#5, c, k, p⟩
  | .controllerChange c n v => ⟨true, 3#5, c, n, v⟩
  | .programChange c p => ⟨true, 4#5, c, p, 0#7⟩
  | .channelAfterTouch c p => ⟨true, 5#5, c, p, 0#7⟩
  | .pitchBend c a => wide 6#5 c (BitVec.ofInt 14 a)
  | .allSoundOff => ⟨true, 7#5, 0#4, 0#7, 0#7⟩
  | .resetAllControllers => ⟨true, 8#5, 0#4, 0#7, 0#7⟩
  | .allNotesOff c => ⟨true, 9#5, c, 0#7, 0#7⟩
  | .localControl c on => ⟨true, 10#5, c, onBit on, 0#7⟩
  | .omniMode c on => ⟨true, 11#5, c, onBit on, 0#7⟩
  | .monoMode c n => ⟨true, 12#5, c, n, 0#7⟩
  | .polyphonicMode c => ⟨true, 13#5, c, 0#7, 0#7⟩
  | .mtcQuarterFrame p n => ⟨true, 14#5, 0#4, p.setWidth 7, n.setWidth 7⟩
  | .songPositionPointer b => wide 15#5 0#4 b
  | .songSelect g => ⟨true, 16#5, 0#4, g, 0#7⟩
  | .tuneRequest => ⟨true, 17#5, 0#4, 0#7, 0#7⟩
  | .clock => ⟨true, 18#5, 0#4, 0#7, 0#7⟩
  | .start => ⟨true, 19#5, 0#4, 0#7, 0#7⟩
  | .continue_ => ⟨true, 20#5, 0#4, 0#7, 0#7⟩
  | .stop => ⟨true, 21#5, 0#4, 0#7, 0#7⟩
  | .activeSensing => ⟨true, 22#5, 0#4, 0#7, 0#7⟩
  | .systemReset => ⟨true, 23#5, 0#4, 0#7, 0#7⟩
  | .systemExclusiveStartByte i => ⟨true, 24#5, 0#4, i, 0#7⟩
  | .systemExclusiveStartWord i => wide 25#5 0#4 i
  | .systemExclusiveData d => ⟨true, 26#5, 0#4, d, 0#7⟩
  | .systemExclusiveEnd => ⟨true, 27#5, 0#4, 0#7, 0#7⟩

/-- The event port of a step's output. -/
def eventPort : Option MidiEvent → EventPort
  | some e => packEvent e
  | none => EventPort.idle

/-- DEC in one cycle: rst wins over in_valid (R312); an accepted byte is one transaction; otherwise the registers
hold and nothing is emitted (R49). -/
def decCycle (i : PortIn) (s : State) : Result :=
  if i.decRst then .next s.resetDec
  else if i.inValid then exec (decodeByte s.dec.context i.inByte) s
  else absorb s

/-- TCA in one cycle: rst wins over tc_op (R312); otherwise the operation word selects (R51). -/
def tcaCycle (i : PortIn) (s : State) : Result :=
  if i.tcaRst then .next s.resetTca
  else exec (decodeTc (i.tcOp ++ (i.tcPiece ++ i.tcData)) i.ld) s

/-- The rising edge that ends the cycle: both blocks take what the cycle wrote; the output is DEC's. -/
def clockEdge (i : PortIn) (s : State) : Result :=
  andThen (decCycle i s) fun t => andThen (tcaCycle i t) fun u => .next (u.emit t.event)

/-- The outputs during the cycle: the event combinationally, the TCA registers as they stand (R49, R51). -/
def portOutputs (i : PortIn) (s : State) : Host.Outcome PortOut Fault Refusal :=
  andThen (decCycle i s) fun t => .next
    ⟨eventPort t.event, s.tca.hour, s.tca.minute, s.tca.second, s.tca.frame, s.tca.rate, dfSep s.tca⟩

end Sys2Proof.Machine
end

