-- ==== Sys2Proof/Safety.lean ====
section
/-! DEFINITION. The terms the claims are stated in: classes of bytes, the reachable-state invariant of DEC, the
domains of the events' fields, the transition table of R105 written out row by row from the spec (so that it can be
held against the decoder and the meanings), and the stream operations of the whole-machine rules. -/

namespace Sys2Proof.Machine

/-- A data byte with value d: `0ddddddd` (R80). -/
def dataByte (d : U7) : Byte := 0b0#1 ++ d

/-- A system-realtime byte, 0xF8 to 0xFF (R80, R110). -/
def isRealtime (b : Byte) : Bool := decide (0xF8#8 ≤ b)

/-- A status byte that resynchronises, 0x80 to 0xF7 (R130). -/
def isStatus (b : Byte) : Bool := decide (0x80#8 ≤ b ∧ b ≤ 0xF7#8)

/-- A data byte, 0x00 to 0x7F (R80). -/
def isData (b : Byte) : Bool := decide (b ≤ 0x7F#8)

/-- What a realtime byte emits (R84). -/
def realtimeEvent (b : Byte) : Option MidiEvent :=
  if b = 0xF8#8 then some .clock
  else if b = 0xFA#8 then some .start
  else if b = 0xFB#8 then some .continue_
  else if b = 0xFC#8 then some .stop
  else if b = 0xFE#8 then some .activeSensing
  else if b = 0xFF#8 then some .systemReset
  else none

/-- The reachable-state invariant of DEC, R36 (a) to (h). -/
abbrev DecInv (r : Dec) : Prop :=
  r.phase ∈ [Phase.idle, .aw1, .aw2, .awsx, .sxd] ∧
  (r.phase = .idle → r.msg = 0x00#8 ∧ r.ch = 0#4 ∧ r.pend = 0#7) ∧
  (r.phase = .aw1 → r.msg ∈ firstByteKinds) ∧
  (r.phase = .aw2 → r.msg ∈ secondByteKinds) ∧
  (r.phase = .awsx → r.msg = 0xF0#8 ∧ r.pend = 0#7) ∧
  (r.phase = .sxd → r.msg = 0xF0#8) ∧
  (field r.msg 4 4 = 0xF#4 → r.ch = 0#4) ∧
  (0x8#4 ≤ field r.msg 4 4 ∧ field r.msg 4 4 ≤ 0xE#4 → field r.msg 0 4 = 0#4)

/-- The field domains of R47 that the fields' types do not say: the controllers, pitch-bend amounts and SysEx IDs
that occur. -/
def eventInDomain : MidiEvent → Bool
  | .controllerChange _ controller _ => decide (controller ≤ 0x77#7)
  | .pitchBend _ amount => decide (-8192 ≤ amount ∧ amount ≤ 8191)
  | .systemExclusiveStartByte id => decide (id ≠ 0#7)
  | .systemExclusiveStartWord id => decide (id ≤ 0x7F#14)
  | _ => true

/-- The invariant of the machine: R36, and the latest output in the domains of R47. -/
abbrev StateInv (s : State) : Prop := DecInv s.dec ∧ s.event.all eventInDomain = true

/-- One row of the table of R105: when it applies, what it emits, and the registers after it. -/
structure TransitionRow where
  applies : Byte → Dec → Bool
  emits   : Byte → Dec → Option MidiEvent
  next    : Byte → Dec → Dec

/-- The data value of a data byte. -/
def dataOf (b : Byte) : U7 := b.setWidth 7

/-- (second << 7) | first, as a number (R62, R90). -/
def composed (first second : U7) : Nat := second.toNat <<< 7 ||| first.toNat

/-- The mode event of a control number 0x78 to 0x7F (R184). -/
def modeEvent (control : U7) (ch : U4) (d : U7) : MidiEvent :=
  if control = 0x78#7 then .allSoundOff
  else if control = 0x79#7 then .resetAllControllers
  else if control = 0x7A#7 then .localControl ch (d.toNat != 0)
  else if control = 0x7B#7 then .allNotesOff ch
  else if control = 0x7C#7 then .omniMode ch false
  else if control = 0x7D#7 then .omniMode ch true
  else if control = 0x7E#7 then .monoMode ch d
  else .polyphonicMode ch

/-- The complete transition and output table of DEC, R105, in its order: of the rows that apply, the first counts. -/
def transitionTable : List TransitionRow := [
  -- 1
  ⟨fun b _ => b ∈ [0xF8#8, 0xFA#8, 0xFB#8, 0xFC#8, 0xFE#8, 0xFF#8], fun b _ => realtimeEvent b, fun _ r => r⟩,
  -- 2
  ⟨fun b _ => b ∈ [0xF9#8, 0xFD#8], fun _ _ => none, fun _ r => r⟩,
  -- 3
  ⟨fun b _ => 0x80#8 ≤ b ∧ b ≤ 0xEF#8, fun _ _ => none, fun b _ => ⟨.aw1, b &&& 0xF0#8, b.setWidth 4, 0#7⟩⟩,
  -- 4
  ⟨fun b _ => 0xF0#8 ≤ b ∧ b ≤ 0xF5#8, fun _ _ => none, fun b _ => ⟨.aw1, b, 0#4, 0#7⟩⟩,
  -- 5
  ⟨fun b _ => b = 0xF6#8, fun _ _ => some .tuneRequest, fun _ _ => ⟨.aw1, 0xF6#8, 0#4, 0#7⟩⟩,
  -- 6
  ⟨fun b _ => b = 0xF7#8, fun _ _ => some .systemExclusiveEnd, fun _ _ => ⟨.aw1, 0xF7#8, 0#4, 0#7⟩⟩,
  -- 7
  ⟨fun _ r => r.phase = .idle, fun _ _ => none, fun _ r => r⟩,
  -- 8
  ⟨fun _ r => r.phase = .aw1 ∧ r.msg = 0xC0#8, fun b r => some (.programChange r.ch (dataOf b)), fun _ r => r⟩,
  -- 9
  ⟨fun _ r => r.phase = .aw1 ∧ r.msg = 0xD0#8, fun b r => some (.channelAfterTouch r.ch (dataOf b)), fun _ r => r⟩,
  -- 10
  ⟨fun _ r => r.phase = .aw1 ∧ r.msg = 0xF1#8,
    fun b _ => some (.mtcQuarterFrame ((b >>> 4).setWidth 3) (b.setWidth 4)), fun _ r => r⟩,
  -- 11
  ⟨fun _ r => r.phase = .aw1 ∧ r.msg = 0xF3#8, fun b _ => some (.songSelect (dataOf b)), fun _ r => r⟩,
  -- 12
  ⟨fun _ r => r.phase = .aw1 ∧ r.msg ∈ [0x80#8, 0x90#8, 0xA0#8, 0xB0#8, 0xE0#8, 0xF2#8], fun _ _ => none,
    fun b r => { r with phase := .aw2, pend := dataOf b }⟩,
  -- 13
  ⟨fun b r => b ≠ 0x00#8 ∧ r.phase = .aw1 ∧ r.msg = 0xF0#8,
    fun b _ => some (.systemExclusiveStartByte (dataOf b)), fun _ r => { r with phase := .sxd }⟩,
  -- 14
  ⟨fun b r => b = 0x00#8 ∧ r.phase = .aw1 ∧ r.msg = 0xF0#8, fun _ _ => none,
    fun _ r => { r with phase := .awsx, pend := 0#7 }⟩,
  -- 15
  ⟨fun _ r => r.phase = .aw1 ∧ r.msg ∈ [0xF4#8, 0xF5#8, 0xF6#8, 0xF7#8], fun _ _ => none, fun _ r => r⟩,
  -- 16
  ⟨fun _ r => r.phase = .aw1, fun _ _ => none, fun _ r => r⟩,
  -- 17
  ⟨fun _ r => r.phase = .aw2 ∧ r.msg = 0x80#8, fun b r => some (.noteOff r.ch r.pend (dataOf b)),
    fun _ r => { r with phase := .aw1 }⟩,
  -- 18
  ⟨fun _ r => r.phase = .aw2 ∧ r.msg = 0x90#8, fun b r => some (.noteOn r.ch r.pend (dataOf b)),
    fun _ r => { r with phase := .aw1 }⟩,
  -- 19
  ⟨fun _ r => r.phase = .aw2 ∧ r.msg = 0xA0#8, fun b r => some (.polyphonicAfterTouch r.ch r.pend (dataOf b)),
    fun _ r => { r with phase := .aw1 }⟩,
  -- 20
  ⟨fun _ r => r.phase = .aw2 ∧ r.msg = 0xB0#8 ∧ r.pend < 0x78#7,
    fun b r => some (.controllerChange r.ch r.pend (dataOf b)), fun _ r => { r with phase := .aw1 }⟩,
  -- 21
  ⟨fun _ r => r.phase = .aw2 ∧ r.msg = 0xB0#8 ∧ 0x78#7 ≤ r.pend,
    fun b r => some (modeEvent r.pend r.ch (dataOf b)), fun _ r => { r with phase := .aw1 }⟩,
  -- 22
  ⟨fun _ r => r.phase = .aw2 ∧ r.msg = 0xE0#8,
    fun b r => some (.pitchBend r.ch ((composed r.pend (dataOf b) : Int) - 0x2000)),
    fun _ r => { r with phase := .aw1 }⟩,
  -- 23
  ⟨fun _ r => r.phase = .aw2 ∧ r.msg = 0xF2#8,
    fun b r => some (.songPositionPointer (BitVec.ofNat 14 (composed r.pend (dataOf b)))),
    fun _ r => { r with phase := .aw1 }⟩,
  -- 24
  ⟨fun _ r => r.phase = .aw2, fun _ _ => none, fun _ r => r⟩,
  -- 25
  ⟨fun _ r => r.phase = .awsx,
    fun b r => some (.systemExclusiveStartWord (BitVec.ofNat 14 (composed (dataOf b) r.pend))),
    fun _ r => { r with phase := .sxd }⟩,
  -- 26
  ⟨fun _ r => r.phase = .sxd, fun b _ => some (.systemExclusiveData (dataOf b)), fun _ r => r⟩,
  -- 27
  ⟨fun _ r => r.phase ∈ [Phase.code5, .code6, .code7], fun _ _ => none, fun _ r => r⟩]

/-- The outputs of a stream with realtime bytes in it, from the outputs of its other bytes: each realtime byte gives
its own, and the others follow in order (R119). -/
def weaveRealtime : List Byte → List (Option MidiEvent) → List (Option MidiEvent)
  | [], _ => []
  | b :: bs, es =>
    if isRealtime b then realtimeEvent b :: weaveRealtime bs es
    else match es with
      | [] => []
      | e :: rest => e :: weaveRealtime bs rest

/-- The event of a one-data-byte message of kind m (R162 to R165). -/
def oneByteEvent (m : Byte) (ch : U4) (d : U7) : Option MidiEvent :=
  if m = 0xC0#8 then some (.programChange ch d)
  else if m = 0xD0#8 then some (.channelAfterTouch ch d)
  else if m = 0xF1#8 then some (.mtcQuarterFrame (field d 4 3) (field d 0 4))
  else if m = 0xF3#8 then some (.songSelect d)
  else none

/-- The event of a two-data-byte message of kind m, first byte d1, second d2 (R181 to R195). -/
def twoByteEvent (m : Byte) (ch : U4) (d1 d2 : U7) : Option MidiEvent :=
  if m = 0x80#8 then some (.noteOff ch d1 d2)
  else if m = 0x90#8 then some (.noteOn ch d1 d2)
  else if m = 0xA0#8 then some (.polyphonicAfterTouch ch d1 d2)
  else if m = 0xB0#8 then
    (if d1 < 0x78#7 then some (.controllerChange ch d1 d2) else some (modeEvent d1 ch d2))
  else if m = 0xE0#8 then some (.pitchBend ch ((composed d1 d2 : Int) - 0x2000))
  else if m = 0xF2#8 then some (.songPositionPointer (BitVec.ofNat 14 (composed d1 d2)))
  else none

/-- `(REG & ~mask) | ((n << pos) & mask)` (R255). -/
def masked {w : Nat} (reg mask : BitVec w) (pos : Nat) (n : U4) : BitVec w :=
  (reg &&& ~~~mask) ||| ((n.setWidth w <<< pos) &&& mask)

/-- Many UPDATEs applied in order. -/
def applyUpdates (us : List (U3 × U4)) (t : Tca) : Tca := us.foldl (fun t u => nibWrite u.1.toNat u.2 t) t

/-- The nibble of the last UPDATE of piece p, if there is one (R256). -/
def lastNibble (p : U3) (us : List (U3 × U4)) : Option U4 :=
  us.foldl (fun last u => if u.1 = p then some u.2 else last) none

/-- The nibbles that send the timecode t, piece 0 to piece 7 (R256). -/
def nibblesOf (t : Tca) : List U4 :=
  [field t.frame 0 4, (field t.frame 4 1).setWidth 4, field t.second 0 4, (field t.second 4 2).setWidth 4,
   field t.minute 0 4, (field t.minute 4 2).setWidth 4, field t.hour 0 4, (t.rate ++ field t.hour 4 1).setWidth 4]

/-- The quarter-frame data bytes that send the timecode t: the piece above its nibble (R92, R256). -/
def quarterFrameBytes (t : Tca) : List Byte :=
  ([0#3, 1#3, 2#3, 3#3, 4#3, 5#3, 6#3, 7#3].zip (nibblesOf t)).map fun u => dataByte (u.1 ++ u.2)

/-- The transactions of one clock cycle: DEC's, if it has one, then TCA's. -/
def cycleInputs (i : PortIn) : List Input :=
  (if i.decRst then [.decReset] else if i.inValid then [byteInput i.inByte] else []) ++
  [if i.tcaRst then .tcaReset else .op (.tca (i.tcOp ++ (i.tcPiece ++ i.tcData)) i.ld)]

end Sys2Proof.Machine
end

