-- ==== Sys2Proof/Certificates/Slice0/Obligations.lean ====
section
/-! DEFINITION. The statements for the provers. Each docstring names the rules of spec/ it formalises; a clause that
rests on a decision of the spec's own, or on a choice of the model, is named there with its log entry. An equation
`exec i s = .next { s with … }` is the whole effect: everything it does not name is unchanged, the registers of both
blocks, the host's inputs and the output alike. -/

open Sys2Proof Sys2Proof.Machine

/-! ## The machine as a whole -/

/-- A step runs the decoded instruction: with an instruction word next, step is exec of what the decoder reads from
it in the context of the registers, in the state without the word. The input list and the zero load inputs of
withFetchWord are the model's choice (log entry 1), and a 9-bit word comes in 16 bits (log entry 11); the order of
bytes and operations is R70's. -/
def Obligations.StepRunsDecodedInstruction : Prop :=
  (∀ (s : State) (w : OpWord) (rest : List Input), s.inputs = .op w :: rest →
    step s = exec (decode s.dec.context w) { s with inputs := rest }) ∧
  (∀ (s : State) (w : OpWord), step (s.present (.op w)) = exec (decode s.dec.context w) s) ∧
  (∀ (s : State) (w : Nat), w < 256 →
    step (s.withFetchWord 8 w) = exec (decodeByte s.dec.context (BitVec.ofNat 8 w)) s) ∧
  (∀ (s : State) (w : Nat), w < 512 →
    step (s.withFetchWord 16 w) = exec (decodeTc (BitVec.ofNat 9 w) LoadPorts.zero) s)

/-- A step without an instruction: nothing presented, the registers hold and nothing is emitted; a reset of one block
gives it its reset values (R52, R53, R312), emits nothing and leaves the other block alone. Reset by rst is the
spec's decision D19 (log entry 6), the zeros of MSG, CH and PEND its decision D5 (log entry 4), the rate FILM its
decision D16 (log entry 5); the idle step, and that a TCA reset emits nothing, are the model's choice (log entry 3). -/
def Obligations.StepWithoutInstruction : Prop :=
  (∀ s : State, s.inputs = [] → step s = .next { s with event := none }) ∧
  (∀ s : State, step (s.present .decReset) = .next { s with dec := ⟨.idle, 0x00#8, 0#4, 0x00#7⟩, event := none }) ∧
  (∀ s : State, step (s.present .tcaReset) =
    .next { s with tca := ⟨0#5, 0#6, 0#6, 0#5, 0b00#2⟩, event := none })

/-- Words written out from the encodings of 30_encoding.md decode to the instructions they stand for. That 0xF2 is
SongPosition is recovered by the spec (G2, log entry 12); the split of the quarter-frame byte is the spec's decision
D10 (log entry 10), and the TCA word and its codes its decision D17 (log entry 6). -/
def Obligations.SpecWordsDecode : Prop :=
  decodeByte ⟨.aw2, 0x90#8, 0x40#7⟩ 0b11111010#8 = .rtStart ∧
  decodeByte ⟨.sxd, 0xF0#8, 0x00#7⟩ 0b10000010#8 = .stNoteOff 2#4 ∧
  decodeByte ⟨.idle, 0x00#8, 0x00#7⟩ 0b11110010#8 = .stSongPosition ∧
  decodeByte ⟨.aw1, 0xF1#8, 0x00#7⟩ 0b01110101#8 = .dAw1MtcQuarterFrame 7#3 5#4 ∧
  decodeByte ⟨.aw2, 0xB0#8, 0x7B#7⟩ 0b00000000#8 = .dAw2AllNotesOff 0#7 ∧
  decodeByte ⟨.aw1, 0xF0#8, 0x00#7⟩ 0b01000011#8 = .dAw1SysexIdByte 0x43#7 ∧
  decodeTc 0b011110111#9 LoadPorts.zero = .tcP7 7#4

/-- Decoding the words of a well-formed instruction, in any context it belongs to, gives the instruction back, with
every operand (R80 to R101, R105). The encodings and contexts rest in part on the spec's decisions D10, D11, D12, D17
and D20 and its recovered codes (log entries 4, 6, 8, 9, 10 and 12). -/
def Obligations.DecodeOfEncodeIsIdentity : Prop :=
  ∀ (i : Instr) (c : Context), i.wf = true → i.inContext c = true → decode c (encode i) = i

/-- Every word decodes, in every context, to a well-formed instruction that belongs to the context, and encoding that
instruction gives the word back: every byte, and every TCA word, with the load inputs where the word is a LOAD. So no
two rows overlap in a context and no word is left out (R81, R95, R298). That encode gives zero load inputs beside a
word that is no LOAD is the model's choice (log entry 13), and the TCA word is the spec's decision D17 (log entry 6). -/
def Obligations.EncodeOfDecodeIsIdentity : Prop :=
  (∀ (c : Context) (b : Byte), (decodeByte c b).wf = true ∧ (decodeByte c b).inContext c = true ∧
    encode (decodeByte c b) = .dec b) ∧
  (∀ (c : Context) (w : TcWord) (ld : LoadPorts), (decodeTc w ld).wf = true ∧ (decodeTc w ld).inContext c = true ∧
    encode (decodeTc w ld) = .tca w (if field w 7 2 = 0b10#2 then ld else LoadPorts.zero))

/-- What reset leaves: DEC <IDLE, 00, 0, 00>, TCA (0, 0, 0, 0, FILM). PHASE and the four zero fields of TCA are the
source's; the zeros of MSG, CH and PEND (D5, log entry 4) and the rate FILM (D16, log entry 5) are decisions of the
spec's own; nothing emitted and nothing presented is the model's choice (log entries 1 and 2). -/
def Obligations.ResetState : Prop :=
  State.reset.dec = ⟨.idle, 0x00#8, 0#4, 0x00#7⟩ ∧ State.reset.tca = ⟨0#5, 0#6, 0#6, 0#5, 0b00#2⟩ ∧
  dfSep State.reset.tca = false ∧ State.reset.event = none ∧ State.reset.inputs = []

/-- The invariant R36, with the event domains of R47, holds after reset. R36 is an inference the spec marks as its
own. -/
def Obligations.InvariantHoldsAtReset : Prop := StateInv State.reset

/-- Every step keeps the invariant R36, with the event domains of R47, from every state that meets it. R36 is an
inference the spec marks as its own. -/
def Obligations.StepKeepsInvariant : Prop :=
  ∀ s t : State, StateInv s → step s = .next t → StateInv t

/-- In every state, reachable or not, whatever is presented, a step answers a next state: no step faults and none is
refused (R280). -/
def Obligations.EveryStepAnswersNext : Prop := ∀ s : State, ∃ t : State, step s = .next t

/-- The complete transition and output table R105: for every byte in every state, the first row that applies gives
the output and the registers, and nothing else changes. Its rows rest on decisions of the spec's own: 3 to 6 on D4
(a cleared register is 0) and 5 and 6 on D6, 15 on D7, 16, 24 and 27 on D20, 17 to 23 on D13 (log entry 4); 10 on D10
(log entry 10); 14 and 25 on D12, 18 on D22, 22 on D8 (log entry 8); 21 on D11 (log entry 9). The codes 0xA, 0xE and
0xF2 in rows 3, 4, 12, 19, 22 and 23 are recovered by the spec (G1, G2, log entry 12). -/
def Obligations.StepFollowsTransitionTable : Prop :=
  ∀ (s : State) (b : Byte), ∃ row : TransitionRow,
    transitionTable.find? (fun row => row.applies b s.dec) = some row ∧
    step (s.present (byteInput b)) = .next { s with dec := row.next b s.dec, event := row.emits b s.dec }

/-! ## Realtime bytes -/

/-- The eight realtime instructions, in every context and state: decoded from their byte whatever the context, they
emit what R84 says and write no register (R111 to R118). -/
def Obligations.RealtimeInstructions : Prop :=
  ∀ (c : Context) (s : State),
    (decodeByte c 0xF8#8 = .rtClock ∧ exec .rtClock s = .next { s with event := some .clock }) ∧
    (decodeByte c 0xF9#8 = .rtUndefF9 ∧ exec .rtUndefF9 s = .next { s with event := none }) ∧
    (decodeByte c 0xFA#8 = .rtStart ∧ exec .rtStart s = .next { s with event := some .start }) ∧
    (decodeByte c 0xFB#8 = .rtContinue ∧ exec .rtContinue s = .next { s with event := some .continue_ }) ∧
    (decodeByte c 0xFC#8 = .rtStop ∧ exec .rtStop s = .next { s with event := some .stop }) ∧
    (decodeByte c 0xFD#8 = .rtUndefFd ∧ exec .rtUndefFd s = .next { s with event := none }) ∧
    (decodeByte c 0xFE#8 = .rtActiveSensing ∧
      exec .rtActiveSensing s = .next { s with event := some .activeSensing }) ∧
    (decodeByte c 0xFF#8 = .rtSystemReset ∧ exec .rtSystemReset s = .next { s with event := some .systemReset })

/-- The interception rule on the byte itself: if its top five bits are all set, the step emits its event and leaves
every register as it was, in every state (R110). -/
def Obligations.RealtimeByteLeavesRegisters : Prop :=
  ∀ (s : State) (b : Byte), field b 3 5 = 0b11111#5 →
    step (s.present (byteInput b)) = .next { s with event := realtimeEvent b }

/-- Realtime bytes put into a stream at any positions change neither the outputs of its other bytes nor the registers
at its end, and each gives its own output at its own place (R119 (b), an inference the spec marks as its own). -/
def Obligations.RealtimeInsertionIsTransparent : Prop :=
  ∀ (bs : List Byte) (s u : State) (es : List (Option MidiEvent)),
    runBytes (bs.filter fun b => !isRealtime b) s = .next (es, u) →
    ∃ v : State, runBytes bs s = .next (weaveRealtime bs es, v) ∧ v.dec = u.dec ∧ v.tca = u.tca

/-! ## Status bytes -/

/-- The seven channel-voice status instructions, in every context and state, for every channel (R131 to R137). That
a cleared register is 0 is the spec's decision D4 (log entry 4); the codes 0xA and 0xE are recovered by the spec (log
entry 12). -/
def Obligations.ChannelVoiceStatusInstructions : Prop :=
  ∀ (c : Context) (s : State) (ch : U4),
    (decodeByte c (0b1000#4 ++ ch) = .stNoteOff ch ∧
      exec (.stNoteOff ch) s = .next { s with dec := ⟨.aw1, 0x80#8, ch, 0#7⟩, event := none }) ∧
    (decodeByte c (0b1001#4 ++ ch) = .stNoteOn ch ∧
      exec (.stNoteOn ch) s = .next { s with dec := ⟨.aw1, 0x90#8, ch, 0#7⟩, event := none }) ∧
    (decodeByte c (0b1010#4 ++ ch) = .stPolyAt ch ∧
      exec (.stPolyAt ch) s = .next { s with dec := ⟨.aw1, 0xA0#8, ch, 0#7⟩, event := none }) ∧
    (decodeByte c (0b1011#4 ++ ch) = .stControlChange ch ∧
      exec (.stControlChange ch) s = .next { s with dec := ⟨.aw1, 0xB0#8, ch, 0#7⟩, event := none }) ∧
    (decodeByte c (0b1100#4 ++ ch) = .stProgramChange ch ∧
      exec (.stProgramChange ch) s = .next { s with dec := ⟨.aw1, 0xC0#8, ch, 0#7⟩, event := none }) ∧
    (decodeByte c (0b1101#4 ++ ch) = .stChannelAt ch ∧
      exec (.stChannelAt ch) s = .next { s with dec := ⟨.aw1, 0xD0#8, ch, 0#7⟩, event := none }) ∧
    (decodeByte c (0b1110#4 ++ ch) = .stPitchBend ch ∧
      exec (.stPitchBend ch) s = .next { s with dec := ⟨.aw1, 0xE0#8, ch, 0#7⟩, event := none })

/-- The system-common status instructions that begin a message with data bytes, in every context and state (R138 to
R141). That a cleared register is 0 is the spec's decision D4 (log entry 4); the code 0xF2 is recovered by the spec
(log entry 12). -/
def Obligations.SystemCommonStartInstructions : Prop :=
  ∀ (c : Context) (s : State),
    (decodeByte c 0b11110000#8 = .stSysexStart ∧
      exec .stSysexStart s = .next { s with dec := ⟨.aw1, 0xF0#8, 0#4, 0#7⟩, event := none }) ∧
    (decodeByte c 0b11110001#8 = .stMtcQuarterFrame ∧
      exec .stMtcQuarterFrame s = .next { s with dec := ⟨.aw1, 0xF1#8, 0#4, 0#7⟩, event := none }) ∧
    (decodeByte c 0b11110010#8 = .stSongPosition ∧
      exec .stSongPosition s = .next { s with dec := ⟨.aw1, 0xF2#8, 0#4, 0#7⟩, event := none }) ∧
    (decodeByte c 0b11110011#8 = .stSongSelect ∧
      exec .stSongSelect s = .next { s with dec := ⟨.aw1, 0xF3#8, 0#4, 0#7⟩, event := none })

/-- 0xF4, 0xF5, 0xF6 and 0xF7 in every context and state: they resynchronise, 0xF6 and 0xF7 emit their event, and the
data bytes that follow are absorbed (R142 to R145, R172). That a cleared register is 0 is the spec's decision D4,
PHASE = AW1 after 0xF6 and 0xF7 its decision D6 and the absorbing its decision D7 (log entry 4). -/
def Obligations.UndefinedKindInstructions : Prop :=
  ∀ (c : Context) (s : State) (d : U7) (p : U7),
    (decodeByte c 0b11110100#8 = .stUndefF4 ∧
      exec .stUndefF4 s = .next { s with dec := ⟨.aw1, 0xF4#8, 0#4, 0#7⟩, event := none }) ∧
    (decodeByte c 0b11110101#8 = .stUndefF5 ∧
      exec .stUndefF5 s = .next { s with dec := ⟨.aw1, 0xF5#8, 0#4, 0#7⟩, event := none }) ∧
    (decodeByte c 0b11110110#8 = .stTuneRequest ∧
      exec .stTuneRequest s = .next { s with dec := ⟨.aw1, 0xF6#8, 0#4, 0#7⟩, event := some .tuneRequest }) ∧
    (decodeByte c 0b11110111#8 = .stSysexEnd ∧
      exec .stSysexEnd s = .next { s with dec := ⟨.aw1, 0xF7#8, 0#4, 0#7⟩, event := some .systemExclusiveEnd }) ∧
    decodeByte ⟨.aw1, 0xF4#8, p⟩ (dataByte d) = .dAw1UndefinedKind d ∧
    decodeByte ⟨.aw1, 0xF5#8, p⟩ (dataByte d) = .dAw1UndefinedKind d ∧
    decodeByte ⟨.aw1, 0xF6#8, p⟩ (dataByte d) = .dAw1UndefinedKind d ∧
    decodeByte ⟨.aw1, 0xF7#8, p⟩ (dataByte d) = .dAw1UndefinedKind d ∧
    exec (.dAw1UndefinedKind d) s = .next { s with event := none }

/-- The status-byte rule R130 on the byte itself: for every byte 0x80 to 0xF7 in every state. That a cleared register
is 0 is the spec's decision D4, and PHASE after 0xF6 and 0xF7 its decision D6 (log entry 4). -/
def Obligations.StatusByteResynchronises : Prop :=
  ∀ (s : State) (b : Byte), 0x80#8 ≤ b → b ≤ 0xF7#8 →
    step (s.present (byteInput b)) = .next { s with
      dec := { phase := .aw1
               msg := if field b 4 4 = 0xF#4 then b else b &&& 0xF0#8
               ch := if field b 4 4 = 0xF#4 then 0#4 else field b 0 4
               pend := 0#7 }
      event := if b = 0xF6#8 then some .tuneRequest else if b = 0xF7#8 then some .systemExclusiveEnd else none }

/-- From a status byte 0x80 to 0xF7 on, the outputs of a stream and the registers of DEC at its end do not depend on
what came before (R146, an inference the spec marks as its own). -/
def Obligations.StatusByteForgetsThePast : Prop :=
  ∀ (b : Byte) (bs : List Byte) (s s' u : State) (es : List (Option MidiEvent)), isStatus b = true →
    runBytes (b :: bs) s = .next (es, u) → ∃ u' : State, runBytes (b :: bs) s' = .next (es, u') ∧ u'.dec = u.dec

/-- A System Exclusive block interrupted by a status byte 0x80 to 0xF6, in its data, in its ID or before its ID, ends
without a SystemExclusiveEnd: only that byte's own output is given, and the new message begins, with its own MSG and
CH, PEND cleared and PHASE = AW1; nothing else changes (R226, R130). That a cleared register is 0 is the spec's
decision D4, and PHASE after 0xF6 its decision D6 (log entry 4). -/
def Obligations.InterruptedBlockIsAbandoned : Prop :=
  ∀ (s : State) (b : Byte), (s.dec.phase = .sxd ∨ s.dec.phase = .awsx ∨ (s.dec.phase = .aw1 ∧ s.dec.msg = 0xF0#8)) →
    0x80#8 ≤ b → b ≤ 0xF6#8 →
    ∃ t : State, step (s.present (byteInput b)) = .next t ∧
      t.event = (if b = 0xF6#8 then some .tuneRequest else none) ∧
      t.dec.phase = .aw1 ∧
      t.dec.msg = (if field b 4 4 = 0xF#4 then b else b &&& 0xF0#8) ∧
      t.dec.ch = (if field b 4 4 = 0xF#4 then 0#4 else field b 0 4) ∧
      t.dec.pend = 0#7 ∧ t.tca = s.tca ∧ t.inputs = s.inputs

/-! ## Data bytes -/

/-- A data byte in IDLE is absorbed, a realtime byte in IDLE emits its event and leaves IDLE in place, and IDLE is
left by every status byte 0x80 to 0xF7, by no other byte, and entered by no byte at all (R161, R31). That IDLE is
never re-entered is an inference the spec marks as its own (R31), and that 0xF6 and 0xF7 leave it is its decision D6
(log entry 4). -/
def Obligations.IdleAbsorbsUntilStatus : Prop :=
  (∀ (m : Byte) (p d : U7), decodeByte ⟨.idle, m, p⟩ (dataByte d) = .dIdle d) ∧
  (∀ (d : U7) (s : State), exec (.dIdle d) s = .next { s with event := none }) ∧
  (∀ (s : State) (b : Byte), s.dec.phase = .idle → isRealtime b = true →
    step (s.present (byteInput b)) = .next { s with event := realtimeEvent b }) ∧
  (∀ (s t : State) (b : Byte), step (s.present (byteInput b)) = .next t →
    (t.dec.phase = .idle ↔ s.dec.phase = .idle ∧ isStatus b = false))

/-- The one-data-byte kinds 0xC0, 0xD0, 0xF3: the event at once, no register written (R162, R163, R165). -/
def Obligations.OneDataByteInstructions : Prop :=
  ∀ (p d : U7) (s : State),
    (decodeByte ⟨.aw1, 0xC0#8, p⟩ (dataByte d) = .dAw1ProgramChange d ∧
      exec (.dAw1ProgramChange d) s = .next { s with event := some (.programChange s.dec.ch d) }) ∧
    (decodeByte ⟨.aw1, 0xD0#8, p⟩ (dataByte d) = .dAw1ChannelAt d ∧
      exec (.dAw1ChannelAt d) s = .next { s with event := some (.channelAfterTouch s.dec.ch d) }) ∧
    (decodeByte ⟨.aw1, 0xF3#8, p⟩ (dataByte d) = .dAw1SongSelect d ∧
      exec (.dAw1SongSelect d) s = .next { s with event := some (.songSelect d) })

/-- The quarter-frame data byte 0pppnnnn: the event with piece and nibble, no register written, TCA not told (R164).
The bit positions are the spec's decision D10, and that CORE does not wire DEC to TCA its decision D9 (log entry
10). -/
def Obligations.QuarterFrameInstruction : Prop :=
  ∀ (p : U7) (piece : U3) (n : U4) (s : State),
    decodeByte ⟨.aw1, 0xF1#8, p⟩ (0b0#1 ++ (piece ++ n)) = .dAw1MtcQuarterFrame piece n ∧
    exec (.dAw1MtcQuarterFrame piece n) s = .next { s with event := some (.mtcQuarterFrame piece n) }

/-- The first data byte of a NoteOff, NoteOn or controller message is held in PEND, and PHASE is AW2 (R166, R167,
R169). -/
def Obligations.FirstDataByteInstructions : Prop :=
  ∀ (p d : U7) (s : State),
    (decodeByte ⟨.aw1, 0x80#8, p⟩ (dataByte d) = .dAw1NoteOff1 d ∧
      exec (.dAw1NoteOff1 d) s = .next { s with dec := { s.dec with phase := .aw2, pend := d }, event := none }) ∧
    (decodeByte ⟨.aw1, 0x90#8, p⟩ (dataByte d) = .dAw1NoteOn1 d ∧
      exec (.dAw1NoteOn1 d) s = .next { s with dec := { s.dec with phase := .aw2, pend := d }, event := none }) ∧
    (decodeByte ⟨.aw1, 0xB0#8, p⟩ (dataByte d) = .dAw1ControlChange1 d ∧
      exec (.dAw1ControlChange1 d) s =
        .next { s with dec := { s.dec with phase := .aw2, pend := d }, event := none })

/-- The first data byte of the kinds 0xA0, 0xE0 and 0xF2, whose codes are recovered by the spec (log entry 12), is
held in PEND, and PHASE is AW2 (R168, R170, R171). -/
def Obligations.FirstDataByteOfRecoveredKinds : Prop :=
  ∀ (p d : U7) (s : State),
    (decodeByte ⟨.aw1, 0xA0#8, p⟩ (dataByte d) = .dAw1PolyAt1 d ∧
      exec (.dAw1PolyAt1 d) s = .next { s with dec := { s.dec with phase := .aw2, pend := d }, event := none }) ∧
    (decodeByte ⟨.aw1, 0xE0#8, p⟩ (dataByte d) = .dAw1PitchBend1 d ∧
      exec (.dAw1PitchBend1 d) s = .next { s with dec := { s.dec with phase := .aw2, pend := d }, event := none }) ∧
    (decodeByte ⟨.aw1, 0xF2#8, p⟩ (dataByte d) = .dAw1SongPosition1 d ∧
      exec (.dAw1SongPosition1 d) s = .next { s with dec := { s.dec with phase := .aw2, pend := d }, event := none })

/-- A data byte in a context no stream reaches is absorbed: AW1 with a MSG that is no kind, a PHASE code 5, 6 or 7,
AW2 with a MSG that takes no second byte (R173, R197). It is the spec's decision D20 (log entry 4). -/
def Obligations.UnreachableContextsAbsorb : Prop :=
  (∀ (m : Byte) (p d : U7), m ∉ firstByteKinds → decodeByte ⟨.aw1, m, p⟩ (dataByte d) = .dUnreachable d) ∧
  (∀ (m : Byte) (p d : U7), decodeByte ⟨.code5, m, p⟩ (dataByte d) = .dUnreachable d ∧
    decodeByte ⟨.code6, m, p⟩ (dataByte d) = .dUnreachable d ∧
    decodeByte ⟨.code7, m, p⟩ (dataByte d) = .dUnreachable d) ∧
  (∀ (m : Byte) (p d : U7), m ∉ secondByteKinds → decodeByte ⟨.aw2, m, p⟩ (dataByte d) = .dAw2Unreachable d) ∧
  (∀ (d : U7) (s : State), exec (.dUnreachable d) s = .next { s with event := none } ∧
    exec (.dAw2Unreachable d) s = .next { s with event := none })

/-- The second data byte of a NoteOff: the event, and PHASE back to AW1 (R181). That PEND is kept is the spec's
decision D13 (R198, log entry 4). -/
def Obligations.NoteOffInstruction : Prop :=
  ∀ (p d : U7) (s : State),
    decodeByte ⟨.aw2, 0x80#8, p⟩ (dataByte d) = .dAw2NoteOff d ∧
    exec (.dAw2NoteOff d) s = .next { s with
      dec := { s.dec with phase := .aw1 }, event := some (.noteOff s.dec.ch s.dec.pend d) }

/-- The second data byte of PolyphonicAfterTouch and SongPositionPointer, whose codes are recovered by the spec (log
entry 12): the event, the first byte low and the second high in a 14-bit value, and PHASE back to AW1 (R183, R195).
That PEND is kept is the spec's decision D13 (log entry 4). -/
def Obligations.SecondDataByteOfRecoveredKinds : Prop :=
  ∀ (p d : U7) (s : State),
    (decodeByte ⟨.aw2, 0xA0#8, p⟩ (dataByte d) = .dAw2PolyAt d ∧
      exec (.dAw2PolyAt d) s = .next { s with
        dec := { s.dec with phase := .aw1 }, event := some (.polyphonicAfterTouch s.dec.ch s.dec.pend d) }) ∧
    (decodeByte ⟨.aw2, 0xF2#8, p⟩ (dataByte d) = .dAw2SongPosition d ∧
      exec (.dAw2SongPosition d) s = .next { s with
        dec := { s.dec with phase := .aw1 }
        event := some (.songPositionPointer ((d.setWidth 14 <<< 7) ||| s.dec.pend.setWidth 14)) })

/-- A controller number 0x00 to 0x77 gives a plain ControllerChange, 0x7B gives AllNotesOff, decided on the first
data byte, held in PEND, when the second arrives (R185, R189). That PEND is kept is the spec's decision D13 (R198, log
entry 4). -/
def Obligations.ControllerOrAllNotesOff : Prop :=
  (∀ (p d : U7), p ≤ 0x77#7 → decodeByte ⟨.aw2, 0xB0#8, p⟩ (dataByte d) = .dAw2ControlChange d) ∧
  (∀ d : U7, decodeByte ⟨.aw2, 0xB0#8, 0x7B#7⟩ (dataByte d) = .dAw2AllNotesOff d) ∧
  (∀ (d : U7) (s : State),
    exec (.dAw2ControlChange d) s = .next { s with
      dec := { s.dec with phase := .aw1 }, event := some (.controllerChange s.dec.ch s.dec.pend d) } ∧
    exec (.dAw2AllNotesOff d) s = .next { s with
      dec := { s.dec with phase := .aw1 }, event := some (.allNotesOff s.dec.ch) })

/-- The other seven channel-mode codes (R186 to R188, R190 to R193). Which code is which event, and that the on field
of OmniMode comes from the code, is the spec's decision D11 (log entry 9); that PEND is kept is its decision D13 (log
entry 4). -/
def Obligations.ChannelModeInstructions : Prop :=
  ∀ (d : U7) (s : State),
    (decodeByte ⟨.aw2, 0xB0#8, 0x78#7⟩ (dataByte d) = .dAw2AllSoundOff d ∧
      exec (.dAw2AllSoundOff d) s = .next { s with
        dec := { s.dec with phase := .aw1 }, event := some .allSoundOff }) ∧
    (decodeByte ⟨.aw2, 0xB0#8, 0x79#7⟩ (dataByte d) = .dAw2ResetAllControllers d ∧
      exec (.dAw2ResetAllControllers d) s = .next { s with
        dec := { s.dec with phase := .aw1 }, event := some .resetAllControllers }) ∧
    (decodeByte ⟨.aw2, 0xB0#8, 0x7A#7⟩ (dataByte d) = .dAw2LocalControl d ∧
      exec (.dAw2LocalControl d) s = .next { s with
        dec := { s.dec with phase := .aw1 }, event := some (.localControl s.dec.ch (d.toNat != 0)) }) ∧
    (decodeByte ⟨.aw2, 0xB0#8, 0x7C#7⟩ (dataByte d) = .dAw2OmniOff d ∧
      exec (.dAw2OmniOff d) s = .next { s with
        dec := { s.dec with phase := .aw1 }, event := some (.omniMode s.dec.ch false) }) ∧
    (decodeByte ⟨.aw2, 0xB0#8, 0x7D#7⟩ (dataByte d) = .dAw2OmniOn d ∧
      exec (.dAw2OmniOn d) s = .next { s with
        dec := { s.dec with phase := .aw1 }, event := some (.omniMode s.dec.ch true) }) ∧
    (decodeByte ⟨.aw2, 0xB0#8, 0x7E#7⟩ (dataByte d) = .dAw2MonoMode d ∧
      exec (.dAw2MonoMode d) s = .next { s with
        dec := { s.dec with phase := .aw1 }, event := some (.monoMode s.dec.ch d) }) ∧
    (decodeByte ⟨.aw2, 0xB0#8, 0x7F#7⟩ (dataByte d) = .dAw2PolyMode d ∧
      exec (.dAw2PolyMode d) s = .next { s with
        dec := { s.dec with phase := .aw1 }, event := some (.polyphonicMode s.dec.ch) })

/-- The second data byte of NoteOn: the event with whatever velocity, and PHASE back to AW1 (R182). That velocity 0
stays a NoteOn is the spec's decision D22 (log entry 8), that PEND is kept its decision D13 (log entry 4). -/
def Obligations.NoteOnInstruction : Prop :=
  ∀ (p d : U7) (s : State),
    decodeByte ⟨.aw2, 0x90#8, p⟩ (dataByte d) = .dAw2NoteOn d ∧
    exec (.dAw2NoteOn d) s = .next { s with
      dec := { s.dec with phase := .aw1 }, event := some (.noteOn s.dec.ch s.dec.pend d) }

/-- PitchBend: the amount is 128 times the second data byte plus the first, less 8192, never outside -8192 to 8191,
and on the event port it is the raw 14-bit value with bit 13 inverted (R91, R194). The sign convention is the spec's
decision D8 (log entry 8), the port its decision D2 (log entry 6), that PEND is kept its decision D13 (log entry 4),
and the code 0xE is recovered by the spec (log entry 12). -/
def Obligations.PitchBendInstruction : Prop :=
  ∀ (p d : U7) (s : State),
    decodeByte ⟨.aw2, 0xE0#8, p⟩ (dataByte d) = .dAw2PitchBend d ∧
    ∃ amount : Int, amount = 128 * (d.toNat : Int) + (s.dec.pend.toNat : Int) - 8192 ∧
      -8192 ≤ amount ∧ amount ≤ 8191 ∧
      exec (.dAw2PitchBend d) s = .next { s with
        dec := { s.dec with phase := .aw1 }, event := some (.pitchBend s.dec.ch amount) } ∧
      (packEvent (.pitchBend s.dec.ch amount)).d2 ++ (packEvent (.pitchBend s.dec.ch amount)).d1 =
        ((d.setWidth 14 <<< 7) ||| s.dec.pend.setWidth 14) ^^^ 0x2000#14

/-! ## System Exclusive -/

/-- A nonzero first byte after 0xF0 is the whole ID, and a data byte inside a block is payload (R221, R224). -/
def Obligations.SysexIdAndDataInstructions : Prop :=
  (∀ (p d : U7), d ≠ 0#7 → decodeByte ⟨.aw1, 0xF0#8, p⟩ (dataByte d) = .dAw1SysexIdByte d) ∧
  (∀ (m : Byte) (p d : U7), decodeByte ⟨.sxd, m, p⟩ (dataByte d) = .dSxdSysexData d) ∧
  (∀ (d : U7) (s : State),
    exec (.dAw1SysexIdByte d) s = .next { s with
      dec := { s.dec with phase := .sxd }, event := some (.systemExclusiveStartByte d) } ∧
    exec (.dSxdSysexData d) s = .next { s with event := some (.systemExclusiveData d) })

/-- A zero first byte after 0xF0 announces a two-byte ID, of which it is the high part and the next byte the low part
(R222, R223). That the zero is held and which part is which is the spec's decision D12 (log entry 8). -/
def Obligations.SysexTwoByteIdInstructions : Prop :=
  ∀ (m : Byte) (p d : U7) (s : State),
    (decodeByte ⟨.aw1, 0xF0#8, p⟩ 0b00000000#8 = .dAw1SysexIdZero ∧
      exec .dAw1SysexIdZero s = .next { s with dec := { s.dec with phase := .awsx, pend := 0#7 }, event := none }) ∧
    (decodeByte ⟨.awsx, m, p⟩ (dataByte d) = .dAwsxSysexIdLow d ∧
      exec (.dAwsxSysexIdLow d) s = .next { s with
        dec := { s.dec with phase := .sxd }
        event := some (.systemExclusiveStartWord ((s.dec.pend.setWidth 14 <<< 7) ||| d.setWidth 14)) })

/-- A whole block with a single-byte ID, from any state, whatever its length: no event, the Start, one Data for each
payload byte in order, the End; DEC ends in <AW1, F7, 0, 00> and TCA is untouched (R220, R225). That a cleared
register is 0 is the spec's decision D4, and PHASE after 0xF7 its decision D6 (log entry 4). -/
def Obligations.SysexBlockOfAnyLength : Prop :=
  ∀ (s : State) (id : U7) (ds : List U7), id ≠ 0#7 →
    runBytes (0xF0#8 :: dataByte id :: ds.map dataByte ++ [0xF7#8]) s =
      .next (none :: some (.systemExclusiveStartByte id) :: ds.map (fun d => some (.systemExclusiveData d))
          ++ [some .systemExclusiveEnd],
        { s with dec := ⟨.aw1, 0xF7#8, 0#4, 0#7⟩, event := some .systemExclusiveEnd })

/-! ## Running status -/

/-- Running status of the one-data-byte kinds: n data bytes give n events of the kind and leave the registers as they
are (R174, an inference the spec marks as its own). The split of a quarter-frame byte into piece and nibble is the
spec's decision D10 (log entry 10). -/
def Obligations.RunningStatusOneDataByte : Prop :=
  ∀ (s : State) (ds : List U7), s.dec.phase = .aw1 → s.dec.msg ∈ [0xC0#8, 0xD0#8, 0xF1#8, 0xF3#8] →
    ∃ t : State, runBytes (ds.map dataByte) s = .next (ds.map (oneByteEvent s.dec.msg s.dec.ch), t) ∧
      t.dec = s.dec ∧ t.tca = s.tca ∧ t.inputs = s.inputs

/-- Running status of the two-data-byte kinds: each pair of data bytes gives no event and then one event of the kind,
and DEC is back in AW1 with the same MSG and CH, and the last first byte in PEND; the controller or mode choice is
made afresh for every pair (R196, an inference the spec marks as its own). The codes 0xA0, 0xE0 and 0xF2 are recovered
by the spec (G1, G2, log entry 12); the mode codes are its decision D11 (log entry 9), the pitch-bend sign its
decision D8 and NoteOn with velocity 0 its decision D22 (log entry 8), and that PEND is kept its decision D13 (log
entry 4). -/
def Obligations.RunningStatusTwoDataBytes : Prop :=
  ∀ (s : State) (ps : List (U7 × U7)), s.dec.phase = .aw1 → s.dec.msg ∈ secondByteKinds →
    ∃ t : State, runBytes (ps.flatMap fun q => [dataByte q.1, dataByte q.2]) s =
        .next (ps.flatMap fun q => [none, twoByteEvent s.dec.msg s.dec.ch q.1 q.2], t) ∧
      t.dec = { s.dec with pend := (ps.getLast?.map Prod.fst).getD s.dec.pend } ∧
      t.tca = s.tca ∧ t.inputs = s.inputs

/-! ## The timecode accumulator -/

/-- The four low-nibble operations, decoded from their words and with the spec's own formulas (R242, R244, R246,
R248). The operation codes of the words are the spec's decision D17 (log entry 6); that no event is emitted is the
model's choice (log entry 3). -/
def Obligations.LowNibbleOperations : Prop :=
  ∀ (n : U4) (ld : LoadPorts) (s : State),
    (decodeTc (0b01000#5 ++ n) ld = .tcP0 n ∧ exec (.tcP0 n) s = .next { s with
      tca := { s.tca with frame := (s.tca.frame &&& 0b10000#5) ||| n.setWidth 5 }, event := none }) ∧
    (decodeTc (0b01010#5 ++ n) ld = .tcP2 n ∧ exec (.tcP2 n) s = .next { s with
      tca := { s.tca with second := (s.tca.second &&& 0b110000#6) ||| n.setWidth 6 }, event := none }) ∧
    (decodeTc (0b01100#5 ++ n) ld = .tcP4 n ∧ exec (.tcP4 n) s = .next { s with
      tca := { s.tca with minute := (s.tca.minute &&& 0b110000#6) ||| n.setWidth 6 }, event := none }) ∧
    (decodeTc (0b01110#5 ++ n) ld = .tcP6 n ∧ exec (.tcP6 n) s = .next { s with
      tca := { s.tca with hour := (s.tca.hour &&& 0b10000#5) ||| n.setWidth 5 }, event := none })

/-- The four high-bit operations, decoded from their words and with the spec's own formulas (R243, R245, R247, R249).
That the bits above a field's width are ignored is the spec's decision D14, the bit order of the rate selector its
decision D15 (log entry 8), and the operation codes of the words its decision D17 (log entry 6); that no event is
emitted is the model's choice (log entry 3). -/
def Obligations.HighBitOperations : Prop :=
  ∀ (n : U4) (ld : LoadPorts) (s : State),
    (decodeTc (0b01001#5 ++ n) ld = .tcP1 n ∧ exec (.tcP1 n) s = .next { s with
      tca := { s.tca with frame := ((n &&& 1#4).setWidth 5 <<< 4) ||| (s.tca.frame &&& 0b01111#5) }, event := none }) ∧
    (decodeTc (0b01011#5 ++ n) ld = .tcP3 n ∧ exec (.tcP3 n) s = .next { s with
      tca := { s.tca with second := ((n &&& 3#4).setWidth 6 <<< 4) ||| (s.tca.second &&& 0b001111#6) }
      event := none }) ∧
    (decodeTc (0b01101#5 ++ n) ld = .tcP5 n ∧ exec (.tcP5 n) s = .next { s with
      tca := { s.tca with minute := ((n &&& 3#4).setWidth 6 <<< 4) ||| (s.tca.minute &&& 0b001111#6) }
      event := none }) ∧
    (decodeTc (0b01111#5 ++ n) ld = .tcP7 n ∧ exec (.tcP7 n) s = .next { s with
      tca := { s.tca with
        hour := ((n &&& 1#4).setWidth 5 <<< 4) ||| (s.tca.hour &&& 0b01111#5)
        rate := ((n >>> 1) &&& 3#4).setWidth 2 }
      event := none })

/-- LOAD takes all five load inputs, whatever the other seven bits; NOP and the reserved code write nothing (R101,
R251, R252). The operation codes and LOAD's form are the spec's decision D17 (log entry 6); that no event is emitted
is the model's choice (log entry 3). -/
def Obligations.LoadNopReservedOperations : Prop :=
  ∀ (x : U7) (ld : LoadPorts) (s : State),
    (decodeTc (0b10#2 ++ x) ld = .tcLoad x ld ∧ exec (.tcLoad x ld) s = .next { s with
      tca := ⟨ld.hour, ld.minute, ld.second, ld.frame, ld.rate⟩, event := none }) ∧
    (decodeTc (0b00#2 ++ x) ld = .tcNop x ∧ exec (.tcNop x) s = .next { s with event := none }) ∧
    (decodeTc (0b11#2 ++ x) ld = .tcRsvd x ∧ exec (.tcRsvd x) s = .next { s with event := none })

/-- A piece index outside 0 to 7 is ignored, on the model's nibble write, whose index is a natural number (R250).
That the UPDATE emits nothing is the model's choice (log entry 3). -/
def Obligations.PieceOutOfRangeIsIgnored : Prop :=
  ∀ (a : Nat) (n : U4) (s : State), 7 < a →
    nibWrite a n s.tca = s.tca ∧ updateTca a n s = .next { s with event := none }

/-- The masking discipline of the eight pieces: each replaces exactly the bits under its mask, from the nibble alone,
and keeps every other bit and every other register (R255). The masks of the odd pieces rest on the spec's decision
D14, the place of the rate on its decision D15 (log entry 8). -/
def Obligations.MaskingDiscipline : Prop :=
  ∀ (n : U4) (t : Tca),
    nibWrite 0 n t = { t with frame := masked t.frame 0b01111#5 0 n } ∧
    nibWrite 1 n t = { t with frame := masked t.frame 0b10000#5 4 n } ∧
    nibWrite 2 n t = { t with second := masked t.second 0b001111#6 0 n } ∧
    nibWrite 3 n t = { t with second := masked t.second 0b110000#6 4 n } ∧
    nibWrite 4 n t = { t with minute := masked t.minute 0b001111#6 0 n } ∧
    nibWrite 5 n t = { t with minute := masked t.minute 0b110000#6 4 n } ∧
    nibWrite 6 n t = { t with hour := masked t.hour 0b01111#5 0 n } ∧
    nibWrite 7 n t = { t with hour := masked t.hour 0b10000#5 4 n, rate := masked t.rate 0b11#2 0 (n >>> 1) }

/-- The same piece twice leaves what the last one wrote, and two different pieces can be applied in either order
(R67, 95_test_vectors.md section 4 (g)). -/
def Obligations.PiecesIdempotentAndCommute : Prop :=
  (∀ (p : U3) (n n' : U4) (t : Tca), nibWrite p.toNat n (nibWrite p.toNat n' t) = nibWrite p.toNat n t) ∧
  (∀ (p q : U3) (n n' : U4) (t : Tca), p ≠ q →
    nibWrite p.toNat n (nibWrite q.toNat n' t) = nibWrite q.toNat n' (nibWrite p.toNat n t))

/-- The full-cycle law: after UPDATEs in any order and number, among them every piece at least once, the registers
are what the last nibble of each piece says, whatever they were before (R256, an inference the spec marks as its
own). The ignored nibble bits are the spec's decision D14, the bit order of the rate its decision D15 (log entry 8). -/
def Obligations.FullCycleLaw : Prop :=
  ∀ (us : List (U3 × U4)) (t : Tca) (n : U3 → U4), (∀ p : U3, lastNibble p us = some (n p)) →
    applyUpdates us t =
      { frame := field (n 1#3) 0 1 ++ n 0#3
        second := field (n 3#3) 0 2 ++ n 2#3
        minute := field (n 5#3) 0 2 ++ n 4#3
        hour := field (n 7#3) 0 1 ++ n 6#3
        rate := field (n 7#3) 1 2 }

/-! ## The two blocks together -/

/-- A byte leaves every TCA register alone; a TCA operation, whatever its word, leaves every DEC register alone (R2,
R55). That a TCA operation emits nothing is the model's choice (log entry 3): by R240 it has no return value, and by
R51 TCA has no event output. -/
def Obligations.EachBlockLeavesTheOther : Prop :=
  (∀ (s t : State) (b : Byte), step (s.present (byteInput b)) = .next t → t.tca = s.tca ∧ t.inputs = s.inputs) ∧
  (∀ (s t : State) (w : TcWord) (ld : LoadPorts), step (s.present (.op (.tca w ld))) = .next t →
    t.dec = s.dec ∧ t.event = none ∧ t.inputs = s.inputs)

/-- In a run of bytes, operations and resets, the outputs and the DEC registers do not depend on the TCA registers,
and the TCA registers do not depend on the DEC registers (R2, R55). -/
def Obligations.BlocksShareNothing : Prop :=
  (∀ (xs : List Input) (s s' u : State) (es : List (Option MidiEvent)), s.dec = s'.dec →
    runInputs xs s = .next (es, u) → ∃ u' : State, runInputs xs s' = .next (es, u') ∧ u'.dec = u.dec) ∧
  (∀ (xs : List Input) (s s' u u' : State) (es es' : List (Option MidiEvent)), s.tca = s'.tca →
    runInputs xs s = .next (es, u) → runInputs xs s' = .next (es', u') → u'.tca = u.tca)

/-- The values the spec calls unobservable are: in IDLE no output of any run depends on MSG, CH or PEND, and in AW1
none depends on PEND (R34, R52, R198, each on an inference or a decision the spec marks as its own, D5 and D13; log
entry 4). -/
def Obligations.UnobservableValuesAreUnobservable : Prop :=
  (∀ (xs : List Input) (s s' u : State) (es : List (Option MidiEvent)),
    s.dec.phase = .idle → s'.dec.phase = .idle →
    runInputs xs s = .next (es, u) → ∃ u' : State, runInputs xs s' = .next (es, u')) ∧
  (∀ (xs : List Input) (s s' u : State) (es : List (Option MidiEvent)),
    s.dec.phase = .aw1 → s'.dec.phase = .aw1 → s.dec.msg = s'.dec.msg → s.dec.ch = s'.dec.ch →
    runInputs xs s = .next (es, u) → ∃ u' : State, runInputs xs s' = .next (es, u'))

/-- Under the reference composition a quarter-frame message [0xF1, d] performs NibWrite(d[6:4], d[3:0]), from any
state, and gives one event (R259). The composition is the host's (D9), the bit positions are D10 (log entry 10); that
a cleared register is 0 is D4 (log entry 4): decisions of the spec's own. -/
def Obligations.QuarterFrameMessageWritesNibble : Prop :=
  ∀ (s : State) (d : U7), ∃ t : State,
    composeBytes [0xF1#8, dataByte d] s = .next ([none, some (.mtcQuarterFrame (field d 4 3) (field d 0 4))], t) ∧
    t.tca = nibWrite (field d 4 3).toNat (field d 0 4) s.tca ∧ t.dec = ⟨.aw1, 0xF1#8, 0#4, 0#7⟩

/-- Under the reference composition the eight quarter frames of a timecode, sent after one 0xF1 from any state, make
TCA hold exactly that timecode (R256, R259; inferences and decisions the spec marks as its own, D4, D9, D10, D15; log
entries 4, 8 and 10). -/
def Obligations.QuarterFramesTransferTimecode : Prop :=
  ∀ (s : State) (v : Tca), ∃ (es : List (Option MidiEvent)) (t : State),
    composeBytes (0xF1#8 :: quarterFrameBytes v) s = .next (es, t) ∧ t.tca = v ∧ t.dec = ⟨.aw1, 0xF1#8, 0#4, 0#7⟩

/-! ## The ports -/

/-- One clock cycle on the ports is its transactions in order, DEC's and then TCA's, with DEC's output: the wrapper
adds no behaviour (R6, R49, R51). The ports are the spec's decisions D1 and D17 (log entry 6). -/
def Obligations.ClockEdgeRunsTransactions : Prop :=
  ∀ (i : PortIn) (s : State), ∃ (es : List (Option MidiEvent)) (u : State),
    runInputs (cycleInputs i) s = .next (es, u) ∧
    clockEdge i s = .next { u with event := if i.inValid && !i.decRst then es.headD none else none }

/-- rst wins over in_valid and tc_op, gives no event and leaves the reset values (R52, R53); a cycle with nothing
asserted holds every register and gives no event (R49, R312, R323). These are the spec's decisions D1, D19 and D21
(log entry 6); the zeros of MSG, CH and PEND are its decision D5 (log entry 4), the rate FILM its decision D16 (log
entry 5). -/
def Obligations.RstWinsAndIdleHolds : Prop :=
  (∀ (i : PortIn) (s : State), i.decRst = true → ∃ (o : PortOut) (t : State), portOutputs i s = .next o ∧
    o.event = ⟨false, 0#5, 0#4, 0#7, 0#7⟩ ∧ clockEdge i s = .next t ∧ t.dec = ⟨.idle, 0x00#8, 0#4, 0x00#7⟩) ∧
  (∀ (i : PortIn) (s : State), i.tcaRst = true → ∃ t : State, clockEdge i s = .next t ∧
    t.tca = ⟨0#5, 0#6, 0#6, 0#5, 0b00#2⟩) ∧
  (∀ (i : PortIn) (s : State), i.decRst = false → i.tcaRst = false → i.inValid = false → i.tcOp = 0b00#2 →
    clockEdge i s = .next { s with event := none } ∧
    ∃ o : PortOut, portOutputs i s = .next o ∧ o.event = ⟨false, 0#5, 0#4, 0#7, 0#7⟩)

/-- The outputs of every cycle, whatever its inputs: the TCA outputs are the TCA registers as they stand before the
edge, with df_sep set exactly for the rate 10; the event port is the event of the accepted byte, packed, and all zero
in a cycle with rst or without an accepted byte (R49, R50, R51, R253). The ports are the spec's decisions D1, D2 and
D17 (log entry 6). -/
def Obligations.PortsShowEventAndRegisters : Prop :=
  ∀ (i : PortIn) (s : State), ∃ o : PortOut, portOutputs i s = .next o ∧
    (o.hour = s.tca.hour ∧ o.minute = s.tca.minute ∧ o.second = s.tca.second ∧ o.frame = s.tca.frame ∧
      o.rate = s.tca.rate ∧ (o.dfSep = true ↔ s.tca.rate = 0b10#2)) ∧
    (i.decRst = true ∨ i.inValid = false → o.event = ⟨false, 0#5, 0#4, 0#7, 0#7⟩) ∧
    (i.decRst = false → i.inValid = true →
      ∃ t : State, step (s.present (byteInput i.inByte)) = .next t ∧
        o.event = eventPort t.event ∧ (o.event.valid = true ↔ t.event ≠ none))

/-- The event port carries every event whole: two events in the domains of R47 that are packed alike are the same
event (R50). The packing is the spec's decision D2 (log entry 6). -/
def Obligations.EventPackingLosesNothing : Prop :=
  ∀ e e' : MidiEvent, eventInDomain e = true → eventInDomain e' = true → packEvent e = packEvent e' → e = e'

/-- The packing table R50 with the kind codes of R47, a clause for each kind, and the port without an event. A 14-bit
field has its low seven bits in d1 and its high seven in d2; a pitch-bend amount is its two's complement. The packing
is the spec's decision D2 (log entry 6). -/
def Obligations.EventPackingTable : Prop :=
  (∀ e : MidiEvent, eventPort (some e) = packEvent e) ∧
  eventPort none = ⟨false, 0#5, 0#4, 0#7, 0#7⟩ ∧
  (∀ (c : U4) (k v : U7),
    packEvent (.noteOff c k v) = ⟨true, 0#5, c, k, v⟩ ∧
    packEvent (.noteOn c k v) = ⟨true, 1#5, c, k, v⟩ ∧
    packEvent (.polyphonicAfterTouch c k v) = ⟨true, 2#5, c, k, v⟩ ∧
    packEvent (.controllerChange c k v) = ⟨true, 3#5, c, k, v⟩ ∧
    packEvent (.programChange c k) = ⟨true, 4#5, c, k, 0#7⟩ ∧
    packEvent (.channelAfterTouch c k) = ⟨true, 5#5, c, k, 0#7⟩ ∧
    packEvent (.monoMode c k) = ⟨true, 12#5, c, k, 0#7⟩ ∧
    packEvent (.songSelect k) = ⟨true, 16#5, 0#4, k, 0#7⟩ ∧
    packEvent (.systemExclusiveStartByte k) = ⟨true, 24#5, 0#4, k, 0#7⟩ ∧
    packEvent (.systemExclusiveData k) = ⟨true, 26#5, 0#4, k, 0#7⟩ ∧
    packEvent (.allNotesOff c) = ⟨true, 9#5, c, 0#7, 0#7⟩ ∧
    packEvent (.polyphonicMode c) = ⟨true, 13#5, c, 0#7, 0#7⟩ ∧
    packEvent (.localControl c true) = ⟨true, 10#5, c, 0b0000001#7, 0#7⟩ ∧
    packEvent (.localControl c false) = ⟨true, 10#5, c, 0b0000000#7, 0#7⟩ ∧
    packEvent (.omniMode c true) = ⟨true, 11#5, c, 0b0000001#7, 0#7⟩ ∧
    packEvent (.omniMode c false) = ⟨true, 11#5, c, 0b0000000#7, 0#7⟩) ∧
  (∀ (p : U3) (n : U4), packEvent (.mtcQuarterFrame p n) = ⟨true, 14#5, 0#4, 0b0000#4 ++ p, 0b000#3 ++ n⟩) ∧
  (∀ high low : U7,
    packEvent (.songPositionPointer (high ++ low)) = ⟨true, 15#5, 0#4, low, high⟩ ∧
    packEvent (.systemExclusiveStartWord (high ++ low)) = ⟨true, 25#5, 0#4, low, high⟩) ∧
  (∀ (c : U4) (amount : Int), -8192 ≤ amount → amount ≤ 8191 → ∃ high low : U7,
    packEvent (.pitchBend c amount) = ⟨true, 6#5, c, low, high⟩ ∧ (high ++ low).toInt = amount) ∧
  packEvent .allSoundOff = ⟨true, 7#5, 0#4, 0#7, 0#7⟩ ∧
  packEvent .resetAllControllers = ⟨true, 8#5, 0#4, 0#7, 0#7⟩ ∧
  packEvent .tuneRequest = ⟨true, 17#5, 0#4, 0#7, 0#7⟩ ∧
  packEvent .clock = ⟨true, 18#5, 0#4, 0#7, 0#7⟩ ∧
  packEvent .start = ⟨true, 19#5, 0#4, 0#7, 0#7⟩ ∧
  packEvent .continue_ = ⟨true, 20#5, 0#4, 0#7, 0#7⟩ ∧
  packEvent .stop = ⟨true, 21#5, 0#4, 0#7, 0#7⟩ ∧
  packEvent .activeSensing = ⟨true, 22#5, 0#4, 0#7, 0#7⟩ ∧
  packEvent .systemReset = ⟨true, 23#5, 0#4, 0#7, 0#7⟩ ∧
  packEvent .systemExclusiveEnd = ⟨true, 27#5, 0#4, 0#7, 0#7⟩
end

