-- ==== Sys2Proof/Laws/Decode.lean ====
section
/-! SUPPORT. Small lemmas of the decoder: which of its parts reads a byte of each class, and that only a data byte
looks at the context. -/

namespace Sys2Proof.Machine

theorem field_dataByte (d : U7) : field (dataByte d) 0 7 = d := by
  revert d; decide

/-- A data byte is read by the context dispatch. -/
theorem decodeByte_dataByte (c : Context) (d : U7) : decodeByte c (dataByte d) = decodeData c d := by
  have h : field (dataByte d) 3 5 ≠ 0b11111#5 ∧ field (dataByte d) 7 1 ≠ 0b1#1 ∧ field (dataByte d) 0 7 = d := by
    revert d; decide
  simp [decodeByte, h]

/-- Every byte of the data class is the data byte of its low seven bits. -/
theorem eq_dataByte_of_isData {b : Byte} (h : isData b = true) : b = dataByte (dataOf b) := by
  revert b; decide

/-- A byte that is no data byte is read without the context. -/
theorem decodeByte_of_not_isData {b : Byte} (h : isData b = false) (c c' : Context) :
    decodeByte c b = decodeByte c' b := by
  have hb : field b 3 5 = 0b11111#5 ∨ field b 7 1 = 0b1#1 := by
    revert b; decide
  rcases hb with hb | hb <;> simp [decodeByte, hb]

/-- A realtime byte is read by the realtime dispatch, whatever the context. -/
theorem decodeByte_realtime {b : Byte} (h : field b 3 5 = 0b11111#5) (c : Context) :
    decodeByte c b = decodeRealtime (field b 0 3) := by
  simp [decodeByte, h]

/-- The three classes are the whole of the 256 values, and no two meet (R81). -/
theorem byte_classes (b : Byte) :
    (isRealtime b = true ∧ isStatus b = false ∧ isData b = false) ∨
    (isRealtime b = false ∧ isStatus b = true ∧ isData b = false) ∨
    (isRealtime b = false ∧ isStatus b = false ∧ isData b = true) := by
  revert b; decide

/-- Everything a data byte can be in AW1, each with the kind that makes it so (R160). -/
theorem decodeFirstData_cases (m : Byte) (d : U7) :
    (m = 0xC0#8 ∧ decodeFirstData m d = .dAw1ProgramChange d) ∨
    (m = 0xD0#8 ∧ decodeFirstData m d = .dAw1ChannelAt d) ∨
    (m = 0xF1#8 ∧ decodeFirstData m d = .dAw1MtcQuarterFrame (field d 4 3) (field d 0 4)) ∨
    (m = 0xF3#8 ∧ decodeFirstData m d = .dAw1SongSelect d) ∨
    (m = 0x80#8 ∧ decodeFirstData m d = .dAw1NoteOff1 d) ∨
    (m = 0x90#8 ∧ decodeFirstData m d = .dAw1NoteOn1 d) ∨
    (m = 0xA0#8 ∧ decodeFirstData m d = .dAw1PolyAt1 d) ∨
    (m = 0xB0#8 ∧ decodeFirstData m d = .dAw1ControlChange1 d) ∨
    (m = 0xE0#8 ∧ decodeFirstData m d = .dAw1PitchBend1 d) ∨
    (m = 0xF2#8 ∧ decodeFirstData m d = .dAw1SongPosition1 d) ∨
    (m = 0xF0#8 ∧ d = 0#7 ∧ decodeFirstData m d = .dAw1SysexIdZero) ∨
    (m = 0xF0#8 ∧ d ≠ 0#7 ∧ decodeFirstData m d = .dAw1SysexIdByte d) ∨
    (m ∈ undefinedKinds ∧ decodeFirstData m d = .dAw1UndefinedKind d) ∨
    (m ∉ firstByteKinds ∧ decodeFirstData m d = .dUnreachable d) := by
  by_cases hm : m ∈ firstByteKinds
  · simp only [firstByteKinds, List.mem_cons, List.not_mem_nil, or_false] at hm
    by_cases hd : d = 0#7 <;>
    rcases hm with rfl | rfl | rfl | rfl | rfl | rfl | rfl | rfl | rfl | rfl | rfl | rfl | rfl | rfl | rfl <;>
    simp [decodeFirstData, undefinedKinds, hd]
  · have h := hm
    simp only [firstByteKinds, List.mem_cons, List.not_mem_nil, or_false, not_or] at h
    simp [decodeFirstData, h, hm]

/-- Everything a data byte can be in AW2 after 0xB0, by the control number held (R184). -/
theorem decodeControl_cases (p d : U7) :
    (p < 0x78#7 ∧ decodeControl p d = .dAw2ControlChange d) ∨
    (p = 0x78#7 ∧ decodeControl p d = .dAw2AllSoundOff d) ∨
    (p = 0x79#7 ∧ decodeControl p d = .dAw2ResetAllControllers d) ∨
    (p = 0x7A#7 ∧ decodeControl p d = .dAw2LocalControl d) ∨
    (p = 0x7B#7 ∧ decodeControl p d = .dAw2AllNotesOff d) ∨
    (p = 0x7C#7 ∧ decodeControl p d = .dAw2OmniOff d) ∨
    (p = 0x7D#7 ∧ decodeControl p d = .dAw2OmniOn d) ∨
    (p = 0x7E#7 ∧ decodeControl p d = .dAw2MonoMode d) ∨
    (p = 0x7F#7 ∧ decodeControl p d = .dAw2PolyMode d) := by
  have h : (p < 0x78#7 ∧ field p 3 4 ≠ 0b1111#4) ∨ p = 0x78#7 ∨ p = 0x79#7 ∨ p = 0x7A#7 ∨ p = 0x7B#7 ∨ p = 0x7C#7 ∨
      p = 0x7D#7 ∨ p = 0x7E#7 ∨ p = 0x7F#7 := by
    revert p; decide
  rcases h with h | rfl | rfl | rfl | rfl | rfl | rfl | rfl | rfl
  · exact .inl ⟨h.1, by simp [decodeControl, h.2]⟩
  all_goals (simp only [true_and]; simp; rfl)

/-- Everything a data byte can be in AW2, each with the kind that makes it so (R180). -/
theorem decodeSecondData_cases (m : Byte) (p d : U7) :
    (m = 0x80#8 ∧ decodeSecondData m p d = .dAw2NoteOff d) ∨
    (m = 0x90#8 ∧ decodeSecondData m p d = .dAw2NoteOn d) ∨
    (m = 0xA0#8 ∧ decodeSecondData m p d = .dAw2PolyAt d) ∨
    (m = 0xB0#8 ∧ decodeSecondData m p d = decodeControl p d) ∨
    (m = 0xE0#8 ∧ decodeSecondData m p d = .dAw2PitchBend d) ∨
    (m = 0xF2#8 ∧ decodeSecondData m p d = .dAw2SongPosition d) ∨
    (m ∉ secondByteKinds ∧ decodeSecondData m p d = .dAw2Unreachable d) := by
  by_cases hm : m ∈ secondByteKinds
  · simp only [secondByteKinds, List.mem_cons, List.not_mem_nil, or_false] at hm
    rcases hm with rfl | rfl | rfl | rfl | rfl | rfl <;> simp [decodeSecondData]
  · have h := hm
    simp only [secondByteKinds, List.mem_cons, List.not_mem_nil, or_false, not_or] at h
    simp [decodeSecondData, h, hm]

end Sys2Proof.Machine
end

