-- ==== Sys2Proof/Laws/State.lean ====
section
/-! SUPPORT. One lemma for each field under each register update, so that no proof unfolds a record update. -/

namespace Sys2Proof.Machine

section Emit
variable (e : Option MidiEvent) (s : State)
@[simp] theorem State.emit_dec : (s.emit e).dec = s.dec := rfl
@[simp] theorem State.emit_tca : (s.emit e).tca = s.tca := rfl
@[simp] theorem State.emit_event : (s.emit e).event = e := rfl
@[simp] theorem State.emit_inputs : (s.emit e).inputs = s.inputs := rfl
end Emit

section SetPhase
variable (p : Phase) (s : State)
@[simp] theorem State.setPhase_phase : (s.setPhase p).dec.phase = p := rfl
@[simp] theorem State.setPhase_msg : (s.setPhase p).dec.msg = s.dec.msg := rfl
@[simp] theorem State.setPhase_ch : (s.setPhase p).dec.ch = s.dec.ch := rfl
@[simp] theorem State.setPhase_pend : (s.setPhase p).dec.pend = s.dec.pend := rfl
@[simp] theorem State.setPhase_tca : (s.setPhase p).tca = s.tca := rfl
@[simp] theorem State.setPhase_event : (s.setPhase p).event = s.event := rfl
@[simp] theorem State.setPhase_inputs : (s.setPhase p).inputs = s.inputs := rfl
end SetPhase

section SetPend
variable (v : U7) (s : State)
@[simp] theorem State.setPend_phase : (s.setPend v).dec.phase = s.dec.phase := rfl
@[simp] theorem State.setPend_msg : (s.setPend v).dec.msg = s.dec.msg := rfl
@[simp] theorem State.setPend_ch : (s.setPend v).dec.ch = s.dec.ch := rfl
@[simp] theorem State.setPend_pend : (s.setPend v).dec.pend = v := rfl
@[simp] theorem State.setPend_tca : (s.setPend v).tca = s.tca := rfl
@[simp] theorem State.setPend_event : (s.setPend v).event = s.event := rfl
@[simp] theorem State.setPend_inputs : (s.setPend v).inputs = s.inputs := rfl
end SetPend

section StartMessage
variable (m : Byte) (c : U4) (s : State)
@[simp] theorem State.startMessage_dec : (s.startMessage m c).dec = ⟨.aw1, m, c, 0#7⟩ := rfl
@[simp] theorem State.startMessage_tca : (s.startMessage m c).tca = s.tca := rfl
@[simp] theorem State.startMessage_event : (s.startMessage m c).event = s.event := rfl
@[simp] theorem State.startMessage_inputs : (s.startMessage m c).inputs = s.inputs := rfl
end StartMessage

section Reset
variable (s : State)
@[simp] theorem State.resetDec_dec : s.resetDec.dec = Dec.reset := rfl
@[simp] theorem State.resetDec_tca : s.resetDec.tca = s.tca := rfl
@[simp] theorem State.resetDec_event : s.resetDec.event = none := rfl
@[simp] theorem State.resetDec_inputs : s.resetDec.inputs = s.inputs := rfl
@[simp] theorem State.resetTca_dec : s.resetTca.dec = s.dec := rfl
@[simp] theorem State.resetTca_tca : s.resetTca.tca = Tca.reset := rfl
@[simp] theorem State.resetTca_event : s.resetTca.event = none := rfl
@[simp] theorem State.resetTca_inputs : s.resetTca.inputs = s.inputs := rfl
end Reset

section Present
variable (s : State) (x : Input)
@[simp] theorem State.present_dec : (s.present x).dec = s.dec := rfl
@[simp] theorem State.present_tca : (s.present x).tca = s.tca := rfl
@[simp] theorem State.present_event : (s.present x).event = s.event := rfl
@[simp] theorem State.present_inputs : (s.present x).inputs = x :: s.inputs := rfl
end Present

@[simp] theorem Dec.context_phase (r : Dec) : r.context.phase = r.phase := rfl
@[simp] theorem Dec.context_msg (r : Dec) : r.context.msg = r.msg := rfl
@[simp] theorem Dec.context_pend (r : Dec) : r.context.pend = r.pend := rfl

end Sys2Proof.Machine
end

