-- ==== Sys2Proof/Laws/Ops.lean ====
section
/-! SUPPORT. One lemma for each shared operation, saying once everything it can do: what the next state is, field by
field. Each answers a next state always, and that state is unique. -/

namespace Sys2Proof.Machine

/-- The realtime service emits and writes no register. -/
theorem serveRealtime_next {e : Option MidiEvent} {s t : State} (h : serveRealtime e s = .next t) :
    t.dec = s.dec ∧ t.tca = s.tca ∧ t.event = e ∧ t.inputs = s.inputs := by
  cases h; exact ⟨rfl, rfl, rfl, rfl⟩

/-- A status byte overwrites all four DEC registers. -/
theorem resynchronise_next {m : Byte} {c : U4} {e : Option MidiEvent} {s t : State}
    (h : resynchronise m c e s = .next t) :
    t.dec = ⟨.aw1, m, c, 0#7⟩ ∧ t.tca = s.tca ∧ t.event = e ∧ t.inputs = s.inputs := by
  cases h; exact ⟨rfl, rfl, rfl, rfl⟩

/-- An absorbed byte leaves every register and empties the output. -/
theorem absorb_next {s t : State} (h : absorb s = .next t) :
    t.dec = s.dec ∧ t.tca = s.tca ∧ t.event = none ∧ t.inputs = s.inputs := by
  cases h; exact ⟨rfl, rfl, rfl, rfl⟩

/-- A reported event leaves every register. -/
theorem reportEvent_next {e : MidiEvent} {s t : State} (h : reportEvent e s = .next t) :
    t.dec = s.dec ∧ t.tca = s.tca ∧ t.event = some e ∧ t.inputs = s.inputs := by
  cases h; exact ⟨rfl, rfl, rfl, rfl⟩

/-- Holding the first byte writes PHASE and PEND only. -/
theorem holdFirst_next {d : U7} {s t : State} (h : holdFirst d s = .next t) :
    t.dec = { s.dec with phase := .aw2, pend := d } ∧ t.tca = s.tca ∧ t.event = none ∧ t.inputs = s.inputs := by
  cases h; exact ⟨rfl, rfl, rfl, rfl⟩

/-- Completing a message writes PHASE only. -/
theorem completeMessage_next {e : MidiEvent} {s t : State} (h : completeMessage e s = .next t) :
    t.dec = { s.dec with phase := .aw1 } ∧ t.tca = s.tca ∧ t.event = some e ∧ t.inputs = s.inputs := by
  cases h; exact ⟨rfl, rfl, rfl, rfl⟩

/-- Opening a System Exclusive block writes PHASE only. -/
theorem openSysex_next {e : MidiEvent} {s t : State} (h : openSysex e s = .next t) :
    t.dec = { s.dec with phase := .sxd } ∧ t.tca = s.tca ∧ t.event = some e ∧ t.inputs = s.inputs := by
  cases h; exact ⟨rfl, rfl, rfl, rfl⟩

/-- The zero ID byte writes PHASE and PEND only. -/
theorem awaitSysexLowByte_next {s t : State} (h : awaitSysexLowByte s = .next t) :
    t.dec = { s.dec with phase := .awsx, pend := 0#7 } ∧ t.tca = s.tca ∧ t.event = none ∧ t.inputs = s.inputs := by
  cases h; exact ⟨rfl, rfl, rfl, rfl⟩

/-- An UPDATE writes TCA by its nibble write, and nothing else. -/
theorem updateTca_next {a : Nat} {n : U4} {s t : State} (h : updateTca a n s = .next t) :
    t.dec = s.dec ∧ t.tca = nibWrite a n s.tca ∧ t.event = none ∧ t.inputs = s.inputs := by
  cases h; exact ⟨rfl, rfl, rfl, rfl⟩

/-- A LOAD writes the five TCA registers, and nothing else. -/
theorem loadTca_next {ld : LoadPorts} {s t : State} (h : loadTca ld s = .next t) :
    t.dec = s.dec ∧ t.tca = ⟨ld.hour, ld.minute, ld.second, ld.frame, ld.rate⟩ ∧ t.event = none ∧
      t.inputs = s.inputs := by
  cases h; exact ⟨rfl, rfl, rfl, rfl⟩

/-- A nibble write with an index above 7 does nothing. -/
theorem nibWrite_above_seven (a : Nat) (v : U4) (t : Tca) : nibWrite (a + 8) v t = t := rfl

section Fields
variable (v : U4)
@[simp] theorem field_setLow5_low (r : BitVec 5) : field (setLow5 r v) 0 4 = v := by
  revert r v; decide
@[simp] theorem field_setLow5_high (r : BitVec 5) : field (setLow5 r v) 4 1 = field r 4 1 := by
  revert r v; decide
@[simp] theorem field_setHigh5_low (r : BitVec 5) : field (setHigh5 r v) 0 4 = field r 0 4 := by
  revert r v; decide
@[simp] theorem field_setHigh5_high (r : BitVec 5) : field (setHigh5 r v) 4 1 = field v 0 1 := by
  revert r v; decide
@[simp] theorem field_setLow6_low (r : BitVec 6) : field (setLow6 r v) 0 4 = v := by
  revert r v; decide
@[simp] theorem field_setLow6_high (r : BitVec 6) : field (setLow6 r v) 4 2 = field r 4 2 := by
  revert r v; decide
@[simp] theorem field_setHigh6_low (r : BitVec 6) : field (setHigh6 r v) 0 4 = field r 0 4 := by
  revert r v; decide
@[simp] theorem field_setHigh6_high (r : BitVec 6) : field (setHigh6 r v) 4 2 = field v 0 2 := by
  revert r v; decide
end Fields

end Sys2Proof.Machine
end

