-- ==== Sys2Proof/Laws/PerInstr.lean ====
section
/-! SUPPORT. The statement made for each instruction as syntax: its encoding has the width and the fixed bits of its
row of spec/opcode_table.json (its width, match and mask). -/

namespace Sys2Proof.Laws

/-- A row of the opcode table: the width, and the fixed bits. -/
structure TableRow where
  width    : Nat
  fixed    : Nat
  mask     : Nat

/-- The width of an instruction's word. -/
def OpWord.width : OpWord → Nat
  | .dec _ => 8
  | .tca _ _ => 9

/-- The bits of an instruction's word. -/
def OpWord.bits : OpWord → Nat
  | .dec b => b.toNat
  | .tca w _ => w.toNat

/-- The row of an instruction, copied from the table. -/
def rowOf : Instr → TableRow
  | .rtClock => ⟨8, 0xF8, 0xFF⟩
  | .rtUndefF9 => ⟨8, 0xF9, 0xFF⟩
  | .rtStart => ⟨8, 0xFA, 0xFF⟩
  | .rtContinue => ⟨8, 0xFB, 0xFF⟩
  | .rtStop => ⟨8, 0xFC, 0xFF⟩
  | .rtUndefFd => ⟨8, 0xFD, 0xFF⟩
  | .rtActiveSensing => ⟨8, 0xFE, 0xFF⟩
  | .rtSystemReset => ⟨8, 0xFF, 0xFF⟩
  | .stNoteOff _ => ⟨8, 0x80, 0xF0⟩
  | .stNoteOn _ => ⟨8, 0x90, 0xF0⟩
  | .stPolyAt _ => ⟨8, 0xA0, 0xF0⟩
  | .stControlChange _ => ⟨8, 0xB0, 0xF0⟩
  | .stProgramChange _ => ⟨8, 0xC0, 0xF0⟩
  | .stChannelAt _ => ⟨8, 0xD0, 0xF0⟩
  | .stPitchBend _ => ⟨8, 0xE0, 0xF0⟩
  | .stSysexStart => ⟨8, 0xF0, 0xFF⟩
  | .stMtcQuarterFrame => ⟨8, 0xF1, 0xFF⟩
  | .stSongPosition => ⟨8, 0xF2, 0xFF⟩
  | .stSongSelect => ⟨8, 0xF3, 0xFF⟩
  | .stUndefF4 => ⟨8, 0xF4, 0xFF⟩
  | .stUndefF5 => ⟨8, 0xF5, 0xFF⟩
  | .stTuneRequest => ⟨8, 0xF6, 0xFF⟩
  | .stSysexEnd => ⟨8, 0xF7, 0xFF⟩
  | .dIdle _ => ⟨8, 0x00, 0x80⟩
  | .dAw1ProgramChange _ => ⟨8, 0x00, 0x80⟩
  | .dAw1ChannelAt _ => ⟨8, 0x00, 0x80⟩
  | .dAw1MtcQuarterFrame _ _ => ⟨8, 0x00, 0x80⟩
  | .dAw1SongSelect _ => ⟨8, 0x00, 0x80⟩
  | .dAw1NoteOff1 _ => ⟨8, 0x00, 0x80⟩
  | .dAw1NoteOn1 _ => ⟨8, 0x00, 0x80⟩
  | .dAw1PolyAt1 _ => ⟨8, 0x00, 0x80⟩
  | .dAw1ControlChange1 _ => ⟨8, 0x00, 0x80⟩
  | .dAw1PitchBend1 _ => ⟨8, 0x00, 0x80⟩
  | .dAw1SongPosition1 _ => ⟨8, 0x00, 0x80⟩
  | .dAw1UndefinedKind _ => ⟨8, 0x00, 0x80⟩
  | .dUnreachable _ => ⟨8, 0x00, 0x80⟩
  | .dAw2NoteOff _ => ⟨8, 0x00, 0x80⟩
  | .dAw2NoteOn _ => ⟨8, 0x00, 0x80⟩
  | .dAw2PolyAt _ => ⟨8, 0x00, 0x80⟩
  | .dAw2ControlChange _ => ⟨8, 0x00, 0x80⟩
  | .dAw2AllSoundOff _ => ⟨8, 0x00, 0x80⟩
  | .dAw2ResetAllControllers _ => ⟨8, 0x00, 0x80⟩
  | .dAw2LocalControl _ => ⟨8, 0x00, 0x80⟩
  | .dAw2AllNotesOff _ => ⟨8, 0x00, 0x80⟩
  | .dAw2OmniOff _ => ⟨8, 0x00, 0x80⟩
  | .dAw2OmniOn _ => ⟨8, 0x00, 0x80⟩
  | .dAw2MonoMode _ => ⟨8, 0x00, 0x80⟩
  | .dAw2PolyMode _ => ⟨8, 0x00, 0x80⟩
  | .dAw2PitchBend _ => ⟨8, 0x00, 0x80⟩
  | .dAw2SongPosition _ => ⟨8, 0x00, 0x80⟩
  | .dAw2Unreachable _ => ⟨8, 0x00, 0x80⟩
  | .dAw1SysexIdByte _ => ⟨8, 0x00, 0x80⟩
  | .dAw1SysexIdZero => ⟨8, 0x00, 0xFF⟩
  | .dAwsxSysexIdLow _ => ⟨8, 0x00, 0x80⟩
  | .dSxdSysexData _ => ⟨8, 0x00, 0x80⟩
  | .tcNop _ => ⟨9, 0x000, 0x180⟩
  | .tcP0 _ => ⟨9, 0x080, 0x1F0⟩
  | .tcP1 _ => ⟨9, 0x090, 0x1F0⟩
  | .tcP2 _ => ⟨9, 0x0A0, 0x1F0⟩
  | .tcP3 _ => ⟨9, 0x0B0, 0x1F0⟩
  | .tcP4 _ => ⟨9, 0x0C0, 0x1F0⟩
  | .tcP5 _ => ⟨9, 0x0D0, 0x1F0⟩
  | .tcP6 _ => ⟨9, 0x0E0, 0x1F0⟩
  | .tcP7 _ => ⟨9, 0x0F0, 0x1F0⟩
  | .tcLoad _ _ => ⟨9, 0x100, 0x180⟩
  | .tcRsvd _ => ⟨9, 0x180, 0x180⟩

namespace EncodesInTableRow

/-- The encoding has the row's width, and the row's fixed bits where its mask is set. -/
abbrev Statement (i : Instr) : Prop :=
  OpWord.width (encode i) = (rowOf i).width ∧ OpWord.bits (encode i) &&& (rowOf i).mask = (rowOf i).fixed

theorem rtClock : Statement .rtClock := by decide
theorem rtUndefF9 : Statement .rtUndefF9 := by decide
theorem rtStart : Statement .rtStart := by decide
theorem rtContinue : Statement .rtContinue := by decide
theorem rtStop : Statement .rtStop := by decide
theorem rtUndefFd : Statement .rtUndefFd := by decide
theorem rtActiveSensing : Statement .rtActiveSensing := by decide
theorem rtSystemReset : Statement .rtSystemReset := by decide
theorem stNoteOff (c : U4) : Statement (.stNoteOff c) := by revert c; decide
theorem stNoteOn (c : U4) : Statement (.stNoteOn c) := by revert c; decide
theorem stPolyAt (c : U4) : Statement (.stPolyAt c) := by revert c; decide
theorem stControlChange (c : U4) : Statement (.stControlChange c) := by revert c; decide
theorem stProgramChange (c : U4) : Statement (.stProgramChange c) := by revert c; decide
theorem stChannelAt (c : U4) : Statement (.stChannelAt c) := by revert c; decide
theorem stPitchBend (c : U4) : Statement (.stPitchBend c) := by revert c; decide
theorem stSysexStart : Statement .stSysexStart := by decide
theorem stMtcQuarterFrame : Statement .stMtcQuarterFrame := by decide
theorem stSongPosition : Statement .stSongPosition := by decide
theorem stSongSelect : Statement .stSongSelect := by decide
theorem stUndefF4 : Statement .stUndefF4 := by decide
theorem stUndefF5 : Statement .stUndefF5 := by decide
theorem stTuneRequest : Statement .stTuneRequest := by decide
theorem stSysexEnd : Statement .stSysexEnd := by decide
theorem dIdle (d : U7) : Statement (.dIdle d) := by revert d; decide
theorem dAw1ProgramChange (d : U7) : Statement (.dAw1ProgramChange d) := by revert d; decide
theorem dAw1ChannelAt (d : U7) : Statement (.dAw1ChannelAt d) := by revert d; decide
theorem dAw1MtcQuarterFrame (p : U3) (n : U4) : Statement (.dAw1MtcQuarterFrame p n) := by revert p n; decide
theorem dAw1SongSelect (d : U7) : Statement (.dAw1SongSelect d) := by revert d; decide
theorem dAw1NoteOff1 (d : U7) : Statement (.dAw1NoteOff1 d) := by revert d; decide
theorem dAw1NoteOn1 (d : U7) : Statement (.dAw1NoteOn1 d) := by revert d; decide
theorem dAw1PolyAt1 (d : U7) : Statement (.dAw1PolyAt1 d) := by revert d; decide
theorem dAw1ControlChange1 (d : U7) : Statement (.dAw1ControlChange1 d) := by revert d; decide
theorem dAw1PitchBend1 (d : U7) : Statement (.dAw1PitchBend1 d) := by revert d; decide
theorem dAw1SongPosition1 (d : U7) : Statement (.dAw1SongPosition1 d) := by revert d; decide
theorem dAw1UndefinedKind (d : U7) : Statement (.dAw1UndefinedKind d) := by revert d; decide
theorem dUnreachable (d : U7) : Statement (.dUnreachable d) := by revert d; decide
theorem dAw2NoteOff (d : U7) : Statement (.dAw2NoteOff d) := by revert d; decide
theorem dAw2NoteOn (d : U7) : Statement (.dAw2NoteOn d) := by revert d; decide
theorem dAw2PolyAt (d : U7) : Statement (.dAw2PolyAt d) := by revert d; decide
theorem dAw2ControlChange (d : U7) : Statement (.dAw2ControlChange d) := by revert d; decide
theorem dAw2AllSoundOff (d : U7) : Statement (.dAw2AllSoundOff d) := by revert d; decide
theorem dAw2ResetAllControllers (d : U7) : Statement (.dAw2ResetAllControllers d) := by revert d; decide
theorem dAw2LocalControl (d : U7) : Statement (.dAw2LocalControl d) := by revert d; decide
theorem dAw2AllNotesOff (d : U7) : Statement (.dAw2AllNotesOff d) := by revert d; decide
theorem dAw2OmniOff (d : U7) : Statement (.dAw2OmniOff d) := by revert d; decide
theorem dAw2OmniOn (d : U7) : Statement (.dAw2OmniOn d) := by revert d; decide
theorem dAw2MonoMode (d : U7) : Statement (.dAw2MonoMode d) := by revert d; decide
theorem dAw2PolyMode (d : U7) : Statement (.dAw2PolyMode d) := by revert d; decide
theorem dAw2PitchBend (d : U7) : Statement (.dAw2PitchBend d) := by revert d; decide
theorem dAw2SongPosition (d : U7) : Statement (.dAw2SongPosition d) := by revert d; decide
theorem dAw2Unreachable (d : U7) : Statement (.dAw2Unreachable d) := by revert d; decide
theorem dAw1SysexIdByte (d : U7) : Statement (.dAw1SysexIdByte d) := by revert d; decide
theorem dAw1SysexIdZero : Statement .dAw1SysexIdZero := by decide
theorem dAwsxSysexIdLow (d : U7) : Statement (.dAwsxSysexIdLow d) := by revert d; decide
theorem dSxdSysexData (d : U7) : Statement (.dSxdSysexData d) := by revert d; decide
theorem tcNop (x : U7) : Statement (.tcNop x) := by revert x; decide
theorem tcP0 (n : U4) : Statement (.tcP0 n) := by revert n; decide
theorem tcP1 (n : U4) : Statement (.tcP1 n) := by revert n; decide
theorem tcP2 (n : U4) : Statement (.tcP2 n) := by revert n; decide
theorem tcP3 (n : U4) : Statement (.tcP3 n) := by revert n; decide
theorem tcP4 (n : U4) : Statement (.tcP4 n) := by revert n; decide
theorem tcP5 (n : U4) : Statement (.tcP5 n) := by revert n; decide
theorem tcP6 (n : U4) : Statement (.tcP6 n) := by revert n; decide
theorem tcP7 (n : U4) : Statement (.tcP7 n) := by revert n; decide
theorem tcLoad (x : U7) (ld : LoadPorts) : Statement (.tcLoad x ld) := by
  have h : ∀ x : U7, Statement (.tcLoad x LoadPorts.zero) := by decide
  exact h x
theorem tcRsvd (x : U7) : Statement (.tcRsvd x) := by revert x; decide

end EncodesInTableRow

end Sys2Proof.Laws
end

