-- ==== Sys2Proof/Laws/Step.lean ====
section
/-! SUPPORT. What one step can do, by what it finds presented. -/

namespace Sys2Proof.Machine

@[simp] theorem step_present_op (s : State) (w : OpWord) :
    step (s.present (.op w)) = exec (decode s.dec.context w) s := rfl

@[simp] theorem step_present_decReset (s : State) : step (s.present .decReset) = .next s.resetDec := rfl

@[simp] theorem step_present_tcaReset (s : State) : step (s.present .tcaReset) = .next s.resetTca := rfl

theorem step_of_no_input {s : State} (h : s.inputs = []) : step s = .next (s.emit none) := by
  cases s; cases h; rfl

/-- A state with an input next is the state without it, presented with it. -/
theorem State.eq_present {s : State} {x : Input} {rest : List Input} (h : s.inputs = x :: rest) :
    s = State.present { s with inputs := rest } x := by
  cases s; cases h; rfl

/-- What a step that answers a next state did: it held with nothing presented, ran an instruction, or reset a
block. -/
theorem step_cases {s t : State} (h : step s = .next t) :
    (s.inputs = [] ∧ t = s.emit none) ∨
    (∃ w rest, s.inputs = .op w :: rest ∧ exec (decode s.dec.context w) { s with inputs := rest } = .next t) ∨
    (∃ rest, s.inputs = .decReset :: rest ∧ t = State.resetDec { s with inputs := rest }) ∨
    (∃ rest, s.inputs = .tcaReset :: rest ∧ t = State.resetTca { s with inputs := rest }) := by
  obtain ⟨dec, tca, event, inputs⟩ := s
  match inputs with
  | [] => cases h; exact .inl ⟨rfl, rfl⟩
  | .op w :: rest => exact .inr (.inl ⟨w, rest, rfl, h⟩)
  | .decReset :: rest => cases h; exact .inr (.inr (.inl ⟨rest, rfl, rfl⟩))
  | .tcaReset :: rest => cases h; exact .inr (.inr (.inr ⟨rest, rfl, rfl⟩))

@[simp] theorem andThen_next {α β : Type} (a : α) (f : α → Host.Outcome β Fault Refusal) :
    andThen (.next a) f = f a := rfl

@[simp] theorem runInputs_nil (s : State) : runInputs [] s = .next ([], s) := rfl

/-- A run of one input more is its step and then the run of the rest. -/
theorem runInputs_cons {x : Input} {xs : List Input} {s t u : State} {es : List (Option MidiEvent)}
    (h : step (s.present x) = .next t) (hr : runInputs xs t = .next (es, u)) :
    runInputs (x :: xs) s = .next (t.event :: es, u) := by
  simp [runInputs, h, hr]

end Sys2Proof.Machine
end

