-- ==== Sys2Proof/Tests/Slice0.lean ====
section
/-! SUPPORT. Tests of the model, each expected result from spec/95_test_vectors.md or from the encodings of
spec/30_encoding.md, and a witness for the hypotheses of every statement that has some. -/

namespace Sys2Proof.Tests

open Sys2Proof.Machine

/-- A state with these DEC registers. -/
def withDec (p : Phase) (m : Byte) (c : U4) (q : U7) : State := ⟨⟨p, m, c, q⟩, Tca.reset, none, []⟩

/-- A state with these TCA registers. -/
def withTca (h : BitVec 5) (m s : BitVec 6) (f : BitVec 5) (r : BitVec 2) : State := ⟨Dec.reset, ⟨h, m, s, f, r⟩, none, []⟩

/-- The step on one byte answers this event and these DEC registers. -/
def onByte (s : State) (b : Byte) (e : Option MidiEvent) (d : Dec) : Bool :=
  match step (s.present (byteInput b)) with
  | .next t => decide (t.event = e ∧ t.dec = d)
  | _ => false

/-- The step on one TCA word answers these TCA registers. -/
def onWord (s : State) (w : TcWord) (ld : LoadPorts) (h : BitVec 5) (m sec : BitVec 6) (f : BitVec 5) (r : BitVec 2) : Bool :=
  match step (s.present (.op (.tca w ld))) with
  | .next t => decide (t.tca = ⟨h, m, sec, f, r⟩ ∧ t.event = none)
  | _ => false

/-- The events of a run. -/
def eventsOf (o : Host.Outcome (List (Option MidiEvent) × State) Fault Refusal) : Option (List (Option MidiEvent)) :=
  match o with
  | .next r => some r.1
  | _ => none

/-! ## WellFormed refuses what is ill-formed -/

theorem test_wf_refuses_zero_sysex_id : Instr.wf (.dAw1SysexIdByte 0#7) = false := by decide

theorem test_wf_admits_smallest_sysex_id : Instr.wf (.dAw1SysexIdByte 1#7) = true := by decide

theorem test_context_refuses_idle_and_absorbed_rows :
    Instr.inContext (.dIdle 0#7) ⟨.aw1, 0x80#8, 0x00#7⟩ = false ∧
    Instr.inContext (.dUnreachable 0#7) ⟨.aw1, 0x80#8, 0x00#7⟩ = false ∧
    Instr.inContext (.dUnreachable 0#7) ⟨.aw2, 0x00#8, 0x00#7⟩ = false ∧
    Instr.inContext (.dUnreachable 0#7) ⟨.sxd, 0x00#8, 0x00#7⟩ = false ∧
    Instr.inContext (.dAw1UndefinedKind 0#7) ⟨.aw1, 0xF3#8, 0x00#7⟩ = false ∧
    Instr.inContext (.dAw1UndefinedKind 0#7) ⟨.aw2, 0xF4#8, 0x00#7⟩ = false := by decide

theorem test_context_refuses_first_data_rows :
    Instr.inContext (.dAw1ProgramChange 0#7) ⟨.aw2, 0xC0#8, 0x00#7⟩ = false ∧
    Instr.inContext (.dAw1ProgramChange 0#7) ⟨.aw1, 0xF0#8, 0x00#7⟩ = false ∧
    Instr.inContext (.dAw1ChannelAt 0#7) ⟨.aw2, 0xD0#8, 0x00#7⟩ = false ∧
    Instr.inContext (.dAw1ChannelAt 0#7) ⟨.aw1, 0xF0#8, 0x00#7⟩ = false ∧
    Instr.inContext (.dAw1SongSelect 0#7) ⟨.aw2, 0xF3#8, 0x00#7⟩ = false ∧
    Instr.inContext (.dAw1SongSelect 0#7) ⟨.aw1, 0xF0#8, 0x00#7⟩ = false ∧
    Instr.inContext (.dAw1NoteOff1 0#7) ⟨.aw2, 0x80#8, 0x00#7⟩ = false ∧
    Instr.inContext (.dAw1NoteOff1 0#7) ⟨.aw1, 0xF0#8, 0x00#7⟩ = false ∧
    Instr.inContext (.dAw1NoteOn1 0#7) ⟨.aw2, 0x90#8, 0x00#7⟩ = false ∧
    Instr.inContext (.dAw1NoteOn1 0#7) ⟨.aw1, 0xF0#8, 0x00#7⟩ = false ∧
    Instr.inContext (.dAw1PolyAt1 0#7) ⟨.aw2, 0xA0#8, 0x00#7⟩ = false ∧
    Instr.inContext (.dAw1PolyAt1 0#7) ⟨.aw1, 0xF0#8, 0x00#7⟩ = false ∧
    Instr.inContext (.dAw1ControlChange1 0#7) ⟨.aw2, 0xB0#8, 0x00#7⟩ = false ∧
    Instr.inContext (.dAw1ControlChange1 0#7) ⟨.aw1, 0xF0#8, 0x00#7⟩ = false ∧
    Instr.inContext (.dAw1PitchBend1 0#7) ⟨.aw2, 0xE0#8, 0x00#7⟩ = false ∧
    Instr.inContext (.dAw1PitchBend1 0#7) ⟨.aw1, 0xF0#8, 0x00#7⟩ = false ∧
    Instr.inContext (.dAw1SongPosition1 0#7) ⟨.aw2, 0xF2#8, 0x00#7⟩ = false ∧
    Instr.inContext (.dAw1SongPosition1 0#7) ⟨.aw1, 0xF0#8, 0x00#7⟩ = false ∧
    Instr.inContext (.dAw1MtcQuarterFrame 0#3 0#4) ⟨.aw2, 0xF1#8, 0x00#7⟩ = false ∧
    Instr.inContext (.dAw1MtcQuarterFrame 0#3 0#4) ⟨.aw1, 0xF0#8, 0x00#7⟩ = false := by decide

theorem test_context_refuses_second_data_rows :
    Instr.inContext (.dAw2NoteOff 0#7) ⟨.aw1, 0x80#8, 0x00#7⟩ = false ∧
    Instr.inContext (.dAw2NoteOff 0#7) ⟨.aw2, 0xB0#8, 0x00#7⟩ = false ∧
    Instr.inContext (.dAw2NoteOn 0#7) ⟨.aw1, 0x90#8, 0x00#7⟩ = false ∧
    Instr.inContext (.dAw2NoteOn 0#7) ⟨.aw2, 0xB0#8, 0x00#7⟩ = false ∧
    Instr.inContext (.dAw2PolyAt 0#7) ⟨.aw1, 0xA0#8, 0x00#7⟩ = false ∧
    Instr.inContext (.dAw2PolyAt 0#7) ⟨.aw2, 0xB0#8, 0x00#7⟩ = false ∧
    Instr.inContext (.dAw2PitchBend 0#7) ⟨.aw1, 0xE0#8, 0x00#7⟩ = false ∧
    Instr.inContext (.dAw2PitchBend 0#7) ⟨.aw2, 0xB0#8, 0x00#7⟩ = false ∧
    Instr.inContext (.dAw2SongPosition 0#7) ⟨.aw1, 0xF2#8, 0x00#7⟩ = false ∧
    Instr.inContext (.dAw2SongPosition 0#7) ⟨.aw2, 0xB0#8, 0x00#7⟩ = false ∧
    Instr.inContext (.dAw2Unreachable 0#7) ⟨.aw2, 0xF2#8, 0x00#7⟩ = false ∧
    Instr.inContext (.dAw2Unreachable 0#7) ⟨.aw1, 0xF4#8, 0x00#7⟩ = false := by decide

theorem test_context_refuses_controller_and_mode_rows :
    Instr.inContext (.dAw2ControlChange 0#7) ⟨.aw2, 0xB0#8, 0x78#7⟩ = false ∧
    Instr.inContext (.dAw2ControlChange 0#7) ⟨.aw2, 0x90#8, 0x77#7⟩ = false ∧
    Instr.inContext (.dAw2AllSoundOff 0#7) ⟨.aw2, 0xB0#8, 0x77#7⟩ = false ∧
    Instr.inContext (.dAw2ResetAllControllers 0#7) ⟨.aw2, 0xB0#8, 0x78#7⟩ = false ∧
    Instr.inContext (.dAw2LocalControl 0#7) ⟨.aw2, 0xB0#8, 0x79#7⟩ = false ∧
    Instr.inContext (.dAw2AllNotesOff 0#7) ⟨.aw2, 0xB0#8, 0x7A#7⟩ = false ∧
    Instr.inContext (.dAw2OmniOff 0#7) ⟨.aw2, 0xB0#8, 0x7B#7⟩ = false ∧
    Instr.inContext (.dAw2OmniOn 0#7) ⟨.aw2, 0xB0#8, 0x7C#7⟩ = false ∧
    Instr.inContext (.dAw2MonoMode 0#7) ⟨.aw2, 0xB0#8, 0x7D#7⟩ = false ∧
    Instr.inContext (.dAw2PolyMode 0#7) ⟨.aw2, 0xB0#8, 0x7E#7⟩ = false ∧
    Instr.inContext (.dAw2PolyMode 0#7) ⟨.aw1, 0xB0#8, 0x7F#7⟩ = false := by decide

theorem test_context_refuses_sysex_rows :
    Instr.inContext (.dAw1SysexIdByte 1#7) ⟨.aw1, 0xF1#8, 0x00#7⟩ = false ∧
    Instr.inContext (.dAw1SysexIdByte 1#7) ⟨.sxd, 0xF0#8, 0x00#7⟩ = false ∧
    Instr.inContext (.dAw1SysexIdZero) ⟨.aw1, 0xF1#8, 0x00#7⟩ = false ∧
    Instr.inContext (.dAw1SysexIdZero) ⟨.awsx, 0xF0#8, 0x00#7⟩ = false ∧
    Instr.inContext (.dAwsxSysexIdLow 0#7) ⟨.sxd, 0xF0#8, 0x00#7⟩ = false ∧
    Instr.inContext (.dSxdSysexData 0#7) ⟨.awsx, 0xF0#8, 0x00#7⟩ = false := by decide

/-! ## Decoding: a word for every constructor, bit by bit from the encoding column of the opcode table -/

theorem test_decode_realtime :
    decodeByte ⟨.aw2, 0x90#8, 0x40#7⟩ 0b11111000#8 = .rtClock ∧
    decodeByte ⟨.aw2, 0x90#8, 0x40#7⟩ 0b11111001#8 = .rtUndefF9 ∧
    decodeByte ⟨.aw2, 0x90#8, 0x40#7⟩ 0b11111010#8 = .rtStart ∧
    decodeByte ⟨.aw2, 0x90#8, 0x40#7⟩ 0b11111011#8 = .rtContinue ∧
    decodeByte ⟨.aw2, 0x90#8, 0x40#7⟩ 0b11111100#8 = .rtStop ∧
    decodeByte ⟨.aw2, 0x90#8, 0x40#7⟩ 0b11111101#8 = .rtUndefFd ∧
    decodeByte ⟨.aw2, 0x90#8, 0x40#7⟩ 0b11111110#8 = .rtActiveSensing ∧
    decodeByte ⟨.aw2, 0x90#8, 0x40#7⟩ 0b11111111#8 = .rtSystemReset := by decide

theorem test_decode_channel_voice :
    decodeByte ⟨.sxd, 0xF0#8, 0x00#7⟩ 0b10000000#8 = .stNoteOff 0#4 ∧
    decodeByte ⟨.sxd, 0xF0#8, 0x00#7⟩ 0b10011111#8 = .stNoteOn 15#4 ∧
    decodeByte ⟨.sxd, 0xF0#8, 0x00#7⟩ 0b10100101#8 = .stPolyAt 5#4 ∧
    decodeByte ⟨.sxd, 0xF0#8, 0x00#7⟩ 0b10111011#8 = .stControlChange 11#4 ∧
    decodeByte ⟨.sxd, 0xF0#8, 0x00#7⟩ 0b11001001#8 = .stProgramChange 9#4 ∧
    decodeByte ⟨.sxd, 0xF0#8, 0x00#7⟩ 0b11011010#8 = .stChannelAt 10#4 ∧
    decodeByte ⟨.sxd, 0xF0#8, 0x00#7⟩ 0b11100110#8 = .stPitchBend 6#4 := by decide

theorem test_decode_system_common :
    decodeByte ⟨.aw2, 0x90#8, 0x40#7⟩ 0b11110000#8 = .stSysexStart ∧
    decodeByte ⟨.aw2, 0x90#8, 0x40#7⟩ 0b11110001#8 = .stMtcQuarterFrame ∧
    decodeByte ⟨.aw2, 0x90#8, 0x40#7⟩ 0b11110010#8 = .stSongPosition ∧
    decodeByte ⟨.aw2, 0x90#8, 0x40#7⟩ 0b11110011#8 = .stSongSelect ∧
    decodeByte ⟨.aw2, 0x90#8, 0x40#7⟩ 0b11110100#8 = .stUndefF4 ∧
    decodeByte ⟨.aw2, 0x90#8, 0x40#7⟩ 0b11110101#8 = .stUndefF5 ∧
    decodeByte ⟨.aw2, 0x90#8, 0x40#7⟩ 0b11110110#8 = .stTuneRequest ∧
    decodeByte ⟨.aw2, 0x90#8, 0x40#7⟩ 0b11110111#8 = .stSysexEnd := by decide

theorem test_decode_first_data :
    decodeByte ⟨.idle, 0x00#8, 0x00#7⟩ 0b01000001#8 = .dIdle 0b1000001#7 ∧
    decodeByte ⟨.aw1, 0xC0#8, 0x00#7⟩ 0b01010110#8 = .dAw1ProgramChange 0b1010110#7 ∧
    decodeByte ⟨.aw1, 0xD0#8, 0x00#7⟩ 0b00000001#8 = .dAw1ChannelAt 0b0000001#7 ∧
    decodeByte ⟨.aw1, 0xF3#8, 0x00#7⟩ 0b01111111#8 = .dAw1SongSelect 0b1111111#7 ∧
    decodeByte ⟨.aw1, 0x80#8, 0x00#7⟩ 0b00000000#8 = .dAw1NoteOff1 0b0000000#7 ∧
    decodeByte ⟨.aw1, 0x90#8, 0x00#7⟩ 0b01000000#8 = .dAw1NoteOn1 0b1000000#7 ∧
    decodeByte ⟨.aw1, 0xA0#8, 0x00#7⟩ 0b00111100#8 = .dAw1PolyAt1 0b0111100#7 ∧
    decodeByte ⟨.aw1, 0xB0#8, 0x00#7⟩ 0b01111011#8 = .dAw1ControlChange1 0b1111011#7 ∧
    decodeByte ⟨.aw1, 0xE0#8, 0x00#7⟩ 0b00101010#8 = .dAw1PitchBend1 0b0101010#7 ∧
    decodeByte ⟨.aw1, 0xF2#8, 0x00#7⟩ 0b00110011#8 = .dAw1SongPosition1 0b0110011#7 ∧
    decodeByte ⟨.aw1, 0xF1#8, 0x00#7⟩ 0b00110101#8 = .dAw1MtcQuarterFrame 0b011#3 0b0101#4 ∧
    decodeByte ⟨.aw1, 0xF4#8, 0x00#7⟩ 0b00010010#8 = .dAw1UndefinedKind 0b0010010#7 ∧
    decodeByte ⟨.aw1, 0xF7#8, 0x00#7⟩ 0b00110011#8 = .dAw1UndefinedKind 0b0110011#7 ∧
    decodeByte ⟨.aw1, 0x81#8, 0x00#7⟩ 0b00110011#8 = .dUnreachable 0b0110011#7 ∧
    decodeByte ⟨.code6, 0x90#8, 0x00#7⟩ 0b00110011#8 = .dUnreachable 0b0110011#7 := by decide

theorem test_decode_second_data :
    decodeByte ⟨.aw2, 0x80#8, 0x7F#7⟩ 0b01010110#8 = .dAw2NoteOff 0b1010110#7 ∧
    decodeByte ⟨.aw2, 0x90#8, 0x7F#7⟩ 0b00000001#8 = .dAw2NoteOn 0b0000001#7 ∧
    decodeByte ⟨.aw2, 0xA0#8, 0x7F#7⟩ 0b01111111#8 = .dAw2PolyAt 0b1111111#7 ∧
    decodeByte ⟨.aw2, 0xE0#8, 0x7F#7⟩ 0b00000000#8 = .dAw2PitchBend 0b0000000#7 ∧
    decodeByte ⟨.aw2, 0xF2#8, 0x7F#7⟩ 0b01000000#8 = .dAw2SongPosition 0b1000000#7 ∧
    decodeByte ⟨.aw2, 0xB0#8, 0x00#7⟩ 0b00000111#8 = .dAw2ControlChange 0b0000111#7 ∧
    decodeByte ⟨.aw2, 0xB0#8, 0x77#7⟩ 0b00000111#8 = .dAw2ControlChange 0b0000111#7 ∧
    decodeByte ⟨.aw2, 0xB0#8, 0x78#7⟩ 0b01010101#8 = .dAw2AllSoundOff 0b1010101#7 ∧
    decodeByte ⟨.aw2, 0xB0#8, 0x79#7⟩ 0b01010101#8 = .dAw2ResetAllControllers 0b1010101#7 ∧
    decodeByte ⟨.aw2, 0xB0#8, 0x7A#7⟩ 0b01010101#8 = .dAw2LocalControl 0b1010101#7 ∧
    decodeByte ⟨.aw2, 0xB0#8, 0x7B#7⟩ 0b01010101#8 = .dAw2AllNotesOff 0b1010101#7 ∧
    decodeByte ⟨.aw2, 0xB0#8, 0x7C#7⟩ 0b01010101#8 = .dAw2OmniOff 0b1010101#7 ∧
    decodeByte ⟨.aw2, 0xB0#8, 0x7D#7⟩ 0b01010101#8 = .dAw2OmniOn 0b1010101#7 ∧
    decodeByte ⟨.aw2, 0xB0#8, 0x7E#7⟩ 0b01010101#8 = .dAw2MonoMode 0b1010101#7 ∧
    decodeByte ⟨.aw2, 0xB0#8, 0x7F#7⟩ 0b01010101#8 = .dAw2PolyMode 0b1010101#7 ∧
    decodeByte ⟨.aw2, 0xC0#8, 0x00#7⟩ 0b00010000#8 = .dAw2Unreachable 0b0010000#7 := by decide

theorem test_decode_sysex :
    decodeByte ⟨.aw1, 0xF0#8, 0x00#7⟩ 0b00000001#8 = .dAw1SysexIdByte 0b0000001#7 ∧
    decodeByte ⟨.aw1, 0xF0#8, 0x00#7⟩ 0b01111111#8 = .dAw1SysexIdByte 0b1111111#7 ∧
    decodeByte ⟨.aw1, 0xF0#8, 0x00#7⟩ 0b00000000#8 = .dAw1SysexIdZero ∧
    decodeByte ⟨.awsx, 0xF0#8, 0x00#7⟩ 0b00100001#8 = .dAwsxSysexIdLow 0b0100001#7 ∧
    decodeByte ⟨.awsx, 0xF0#8, 0x00#7⟩ 0b00000000#8 = .dAwsxSysexIdLow 0#7 ∧
    decodeByte ⟨.sxd, 0xF0#8, 0x00#7⟩ 0b00000000#8 = .dSxdSysexData 0#7 := by decide

theorem test_decode_timecode :
    decodeTc 0b001011111#9 LoadPorts.zero = .tcNop 0b1011111#7 ∧
    decodeTc 0b010001101#9 LoadPorts.zero = .tcP0 0b1101#4 ∧
    decodeTc 0b010010001#9 LoadPorts.zero = .tcP1 0b0001#4 ∧
    decodeTc 0b010101010#9 LoadPorts.zero = .tcP2 0b1010#4 ∧
    decodeTc 0b010110011#9 LoadPorts.zero = .tcP3 0b0011#4 ∧
    decodeTc 0b011001011#9 LoadPorts.zero = .tcP4 0b1011#4 ∧
    decodeTc 0b011010110#9 LoadPorts.zero = .tcP5 0b0110#4 ∧
    decodeTc 0b011100111#9 LoadPorts.zero = .tcP6 0b0111#4 ∧
    decodeTc 0b011110101#9 LoadPorts.zero = .tcP7 0b0101#4 ∧
    decodeTc 0b100000001#9 LoadPorts.zero = .tcLoad 0b0000001#7 LoadPorts.zero ∧
    decodeTc 0b110001111#9 LoadPorts.zero = .tcRsvd 0b0001111#7 := by decide

theorem test_decode_table_word :
    decodeTableWord 8 0xF8 = some .rtClock ∧
    decodeTableWord 8 0x00 = some (.dIdle 0#7) ∧
    decodeTableWord 16 0x0F5 = some (.tcP7 5#4) ∧
    decodeTableWord 16 0x100 = some (.tcLoad 0#7 LoadPorts.zero) ∧
    decodeTableWord 16 0x200 = none ∧
    decodeTableWord 8 0x100 = none ∧
    decodeTableWord 24 0 = none := by decide

/-! ## One step of every instruction (spec/95_test_vectors.md, the vector named in each comment) -/

-- V-RT-3
theorem test_rtClock_mid_message : onByte (withDec .aw2 0x90#8 0#4 0x3C#7) 0xF8#8 (some .clock) ⟨.aw2, 0x90#8, 0#4, 0x3C#7⟩ = true := by decide

-- V-RT-3
theorem test_rtUndefF9_mid_message : onByte (withDec .aw2 0x90#8 0#4 0x3C#7) 0xF9#8 none ⟨.aw2, 0x90#8, 0#4, 0x3C#7⟩ = true := by decide

-- V-RT-3
theorem test_rtStart_mid_message : onByte (withDec .aw2 0x90#8 0#4 0x3C#7) 0xFA#8 (some .start) ⟨.aw2, 0x90#8, 0#4, 0x3C#7⟩ = true := by decide

-- V-RT-3
theorem test_rtContinue_mid_message : onByte (withDec .aw2 0x90#8 0#4 0x3C#7) 0xFB#8 (some .continue_) ⟨.aw2, 0x90#8, 0#4, 0x3C#7⟩ = true := by decide

-- V-RT-3
theorem test_rtStop_mid_message : onByte (withDec .aw2 0x90#8 0#4 0x3C#7) 0xFC#8 (some .stop) ⟨.aw2, 0x90#8, 0#4, 0x3C#7⟩ = true := by decide

-- V-RT-3
theorem test_rtUndefFd_mid_message : onByte (withDec .aw2 0x90#8 0#4 0x3C#7) 0xFD#8 none ⟨.aw2, 0x90#8, 0#4, 0x3C#7⟩ = true := by decide

-- V-RT-3
theorem test_rtActiveSensing_mid_message : onByte (withDec .aw2 0x90#8 0#4 0x3C#7) 0xFE#8 (some .activeSensing) ⟨.aw2, 0x90#8, 0#4, 0x3C#7⟩ = true := by decide

-- V-RT-3
theorem test_rtSystemReset_mid_message : onByte (withDec .aw2 0x90#8 0#4 0x3C#7) 0xFF#8 (some .systemReset) ⟨.aw2, 0x90#8, 0#4, 0x3C#7⟩ = true := by decide

-- V-ST-1
theorem test_stNoteOff_abandons_note_on : onByte (withDec .aw2 0x90#8 7#4 0x55#7) 0x8F#8 none ⟨.aw1, 0x80#8, 15#4, 0x00#7⟩ = true := by decide

-- V-ST-1
theorem test_stNoteOn_abandons_note_on : onByte (withDec .aw2 0x90#8 7#4 0x55#7) 0x93#8 none ⟨.aw1, 0x90#8, 3#4, 0x00#7⟩ = true := by decide

-- V-ST-1
theorem test_stPolyAt_abandons_note_on : onByte (withDec .aw2 0x90#8 7#4 0x55#7) 0xA5#8 none ⟨.aw1, 0xA0#8, 5#4, 0x00#7⟩ = true := by decide

-- V-ST-1
theorem test_stControlChange_abandons_note_on : onByte (withDec .aw2 0x90#8 7#4 0x55#7) 0xB0#8 none ⟨.aw1, 0xB0#8, 0#4, 0x00#7⟩ = true := by decide

-- V-ST-1
theorem test_stProgramChange_abandons_note_on : onByte (withDec .aw2 0x90#8 7#4 0x55#7) 0xC9#8 none ⟨.aw1, 0xC0#8, 9#4, 0x00#7⟩ = true := by decide

-- V-ST-1
theorem test_stChannelAt_abandons_note_on : onByte (withDec .aw2 0x90#8 7#4 0x55#7) 0xDA#8 none ⟨.aw1, 0xD0#8, 10#4, 0x00#7⟩ = true := by decide

-- V-ST-1
theorem test_stPitchBend_abandons_note_on : onByte (withDec .aw2 0x90#8 7#4 0x55#7) 0xEF#8 none ⟨.aw1, 0xE0#8, 15#4, 0x00#7⟩ = true := by decide

-- V-ST-1
theorem test_stSysexStart_abandons_note_on : onByte (withDec .aw2 0x90#8 7#4 0x55#7) 0xF0#8 none ⟨.aw1, 0xF0#8, 0#4, 0x00#7⟩ = true := by decide

-- V-ST-1
theorem test_stMtcQuarterFrame_abandons_note_on : onByte (withDec .aw2 0x90#8 7#4 0x55#7) 0xF1#8 none ⟨.aw1, 0xF1#8, 0#4, 0x00#7⟩ = true := by decide

-- V-ST-1
theorem test_stSongPosition_abandons_note_on : onByte (withDec .aw2 0x90#8 7#4 0x55#7) 0xF2#8 none ⟨.aw1, 0xF2#8, 0#4, 0x00#7⟩ = true := by decide

-- V-ST-1
theorem test_stSongSelect_abandons_note_on : onByte (withDec .aw2 0x90#8 7#4 0x55#7) 0xF3#8 none ⟨.aw1, 0xF3#8, 0#4, 0x00#7⟩ = true := by decide

-- V-ST-1
theorem test_stUndefF4_abandons_note_on : onByte (withDec .aw2 0x90#8 7#4 0x55#7) 0xF4#8 none ⟨.aw1, 0xF4#8, 0#4, 0x00#7⟩ = true := by decide

-- V-ST-1
theorem test_stUndefF5_abandons_note_on : onByte (withDec .aw2 0x90#8 7#4 0x55#7) 0xF5#8 none ⟨.aw1, 0xF5#8, 0#4, 0x00#7⟩ = true := by decide

-- V-ST-1
theorem test_stTuneRequest_abandons_note_on : onByte (withDec .aw2 0x90#8 7#4 0x55#7) 0xF6#8 (some .tuneRequest) ⟨.aw1, 0xF6#8, 0#4, 0x00#7⟩ = true := by decide

-- V-ST-1
theorem test_stSysexEnd_abandons_note_on : onByte (withDec .aw2 0x90#8 7#4 0x55#7) 0xF7#8 (some .systemExclusiveEnd) ⟨.aw1, 0xF7#8, 0#4, 0x00#7⟩ = true := by decide

-- V-D1-1
theorem test_dIdle : onByte (withDec .idle 0x00#8 0#4 0x00#7) 0x7F#8 none ⟨.idle, 0x00#8, 0#4, 0x00#7⟩ = true := by decide

-- V-D1-1
theorem test_dAw1ProgramChange : onByte (withDec .aw1 0xC0#8 9#4 0x00#7) 0x7F#8 (some (.programChange 9#4 0x7F#7)) ⟨.aw1, 0xC0#8, 9#4, 0x00#7⟩ = true := by decide

-- V-D1-1
theorem test_dAw1ChannelAt : onByte (withDec .aw1 0xD0#8 10#4 0x00#7) 0x40#8 (some (.channelAfterTouch 10#4 0x40#7)) ⟨.aw1, 0xD0#8, 10#4, 0x00#7⟩ = true := by decide

-- V-D1-1
theorem test_dAw1MtcQuarterFrame : onByte (withDec .aw1 0xF1#8 0#4 0x00#7) 0x35#8 (some (.mtcQuarterFrame 3#3 5#4)) ⟨.aw1, 0xF1#8, 0#4, 0x00#7⟩ = true := by decide

-- V-D1-1
theorem test_dAw1SongSelect : onByte (withDec .aw1 0xF3#8 0#4 0x00#7) 0x05#8 (some (.songSelect 5#7)) ⟨.aw1, 0xF3#8, 0#4, 0x00#7⟩ = true := by decide

-- V-D1-1
theorem test_dAw1NoteOff1 : onByte (withDec .aw1 0x80#8 2#4 0x00#7) 0x40#8 none ⟨.aw2, 0x80#8, 2#4, 0x40#7⟩ = true := by decide

-- V-D1-3
theorem test_dAw1NoteOn1_overwrites_pend : onByte (withDec .aw1 0x90#8 0#4 0x44#7) 0x10#8 none ⟨.aw2, 0x90#8, 0#4, 0x10#7⟩ = true := by decide

-- V-D1-1
theorem test_dAw1PolyAt1 : onByte (withDec .aw1 0xA0#8 5#4 0x00#7) 0x3C#8 none ⟨.aw2, 0xA0#8, 5#4, 0x3C#7⟩ = true := by decide

-- V-D1-1
theorem test_dAw1ControlChange1 : onByte (withDec .aw1 0xB0#8 0#4 0x00#7) 0x7B#8 none ⟨.aw2, 0xB0#8, 0#4, 0x7B#7⟩ = true := by decide

-- V-D1-1
theorem test_dAw1PitchBend1 : onByte (withDec .aw1 0xE0#8 3#4 0x00#7) 0x7F#8 none ⟨.aw2, 0xE0#8, 3#4, 0x7F#7⟩ = true := by decide

-- V-D1-1
theorem test_dAw1SongPosition1 : onByte (withDec .aw1 0xF2#8 0#4 0x00#7) 0x01#8 none ⟨.aw2, 0xF2#8, 0#4, 0x01#7⟩ = true := by decide

-- V-D1-1
theorem test_dAw1UndefinedKind : onByte (withDec .aw1 0xF6#8 0#4 0x00#7) 0x33#8 none ⟨.aw1, 0xF6#8, 0#4, 0x00#7⟩ = true := by decide

-- V-D1-1
theorem test_dUnreachable : onByte (withDec .aw1 0x00#8 0#4 0x00#7) 0x33#8 none ⟨.aw1, 0x00#8, 0#4, 0x00#7⟩ = true := by decide

-- V-D2-1
theorem test_dAw2NoteOff : onByte (withDec .aw2 0x80#8 2#4 0x40#7) 0x7F#8 (some (.noteOff 2#4 0x40#7 0x7F#7)) ⟨.aw1, 0x80#8, 2#4, 0x40#7⟩ = true := by decide

-- V-D2-1
theorem test_dAw2NoteOn_velocity_zero : onByte (withDec .aw2 0x90#8 0#4 0x40#7) 0x00#8 (some (.noteOn 0#4 0x40#7 0x00#7)) ⟨.aw1, 0x90#8, 0#4, 0x40#7⟩ = true := by decide

-- V-D2-1
theorem test_dAw2PolyAt : onByte (withDec .aw2 0xA0#8 5#4 0x3C#7) 0x00#8 (some (.polyphonicAfterTouch 5#4 0x3C#7 0x00#7)) ⟨.aw1, 0xA0#8, 5#4, 0x3C#7⟩ = true := by decide

-- V-D2-1
theorem test_dAw2ControlChange_highest : onByte (withDec .aw2 0xB0#8 15#4 0x77#7) 0x7F#8 (some (.controllerChange 15#4 0x77#7 0x7F#7)) ⟨.aw1, 0xB0#8, 15#4, 0x77#7⟩ = true := by decide

-- V-D2-1
theorem test_dAw2AllSoundOff : onByte (withDec .aw2 0xB0#8 15#4 0x78#7) 0x00#8 (some (.allSoundOff)) ⟨.aw1, 0xB0#8, 15#4, 0x78#7⟩ = true := by decide

-- V-D2-1
theorem test_dAw2ResetAllControllers : onByte (withDec .aw2 0xB0#8 15#4 0x79#7) 0x00#8 (some (.resetAllControllers)) ⟨.aw1, 0xB0#8, 15#4, 0x79#7⟩ = true := by decide

-- V-D2-1
theorem test_dAw2LocalControl_off : onByte (withDec .aw2 0xB0#8 15#4 0x7A#7) 0x00#8 (some (.localControl 15#4 false)) ⟨.aw1, 0xB0#8, 15#4, 0x7A#7⟩ = true := by decide

-- V-D2-1
theorem test_dAw2LocalControl_any_nonzero : onByte (withDec .aw2 0xB0#8 15#4 0x7A#7) 0x01#8 (some (.localControl 15#4 true)) ⟨.aw1, 0xB0#8, 15#4, 0x7A#7⟩ = true := by decide

-- V-D2-1
theorem test_dAw2AllNotesOff : onByte (withDec .aw2 0xB0#8 0#4 0x7B#7) 0x55#8 (some (.allNotesOff 0#4)) ⟨.aw1, 0xB0#8, 0#4, 0x7B#7⟩ = true := by decide

-- V-D2-1
theorem test_dAw2OmniOff : onByte (withDec .aw2 0xB0#8 15#4 0x7C#7) 0x00#8 (some (.omniMode 15#4 false)) ⟨.aw1, 0xB0#8, 15#4, 0x7C#7⟩ = true := by decide

-- V-D2-1
theorem test_dAw2OmniOn : onByte (withDec .aw2 0xB0#8 15#4 0x7D#7) 0x00#8 (some (.omniMode 15#4 true)) ⟨.aw1, 0xB0#8, 15#4, 0x7D#7⟩ = true := by decide

-- V-D2-1
theorem test_dAw2MonoMode : onByte (withDec .aw2 0xB0#8 15#4 0x7E#7) 0x04#8 (some (.monoMode 15#4 4#7)) ⟨.aw1, 0xB0#8, 15#4, 0x7E#7⟩ = true := by decide

-- V-D2-1
theorem test_dAw2PolyMode : onByte (withDec .aw2 0xB0#8 15#4 0x7F#7) 0x00#8 (some (.polyphonicMode 15#4)) ⟨.aw1, 0xB0#8, 15#4, 0x7F#7⟩ = true := by decide

-- V-D2-1
theorem test_dAw2PitchBend_lowest : onByte (withDec .aw2 0xE0#8 3#4 0x00#7) 0x00#8 (some (.pitchBend 3#4 (-8192))) ⟨.aw1, 0xE0#8, 3#4, 0x00#7⟩ = true := by decide

-- V-D2-1
theorem test_dAw2PitchBend_highest : onByte (withDec .aw2 0xE0#8 3#4 0x7F#7) 0x7F#8 (some (.pitchBend 3#4 8191)) ⟨.aw1, 0xE0#8, 3#4, 0x7F#7⟩ = true := by decide

-- V-D2-1
theorem test_dAw2SongPosition_first_is_low : onByte (withDec .aw2 0xF2#8 0#4 0x01#7) 0x00#8 (some (.songPositionPointer 1#14)) ⟨.aw1, 0xF2#8, 0#4, 0x01#7⟩ = true := by decide

-- V-D2-1
theorem test_dAw2SongPosition_second_is_high : onByte (withDec .aw2 0xF2#8 0#4 0x00#7) 0x01#8 (some (.songPositionPointer 128#14)) ⟨.aw1, 0xF2#8, 0#4, 0x00#7⟩ = true := by decide

-- V-D2-1
theorem test_dAw2Unreachable : onByte (withDec .aw2 0xC0#8 0#4 0x00#7) 0x10#8 none ⟨.aw2, 0xC0#8, 0#4, 0x00#7⟩ = true := by decide

-- V-SX-1
theorem test_dAw1SysexIdByte : onByte (withDec .aw1 0xF0#8 0#4 0x00#7) 0x43#8 (some (.systemExclusiveStartByte 0x43#7)) ⟨.sxd, 0xF0#8, 0#4, 0x00#7⟩ = true := by decide

-- V-SX-2
theorem test_dAw1SysexIdZero : onByte (withDec .aw1 0xF0#8 0#4 0x00#7) 0x00#8 none ⟨.awsx, 0xF0#8, 0#4, 0x00#7⟩ = true := by decide

-- V-SX-4
theorem test_dAwsxSysexIdLow : onByte (withDec .awsx 0xF0#8 0#4 0x00#7) 0x7F#8 (some (.systemExclusiveStartWord 0x7F#14)) ⟨.sxd, 0xF0#8, 0#4, 0x00#7⟩ = true := by decide

-- V-SX-3
theorem test_dAwsxSysexIdLow_zero : onByte (withDec .awsx 0xF0#8 0#4 0x00#7) 0x00#8 (some (.systemExclusiveStartWord 0#14)) ⟨.sxd, 0xF0#8, 0#4, 0x00#7⟩ = true := by decide

-- V-SX-5
theorem test_dSxdSysexData_zero : onByte (withDec .sxd 0xF0#8 0#4 0x00#7) 0x00#8 (some (.systemExclusiveData 0#7)) ⟨.sxd, 0xF0#8, 0#4, 0x00#7⟩ = true := by decide

-- V-TC-1
theorem test_tcP0_clears : onWord (withTca 31 63 63 31 3) 0b010000000#9 LoadPorts.zero 31 63 63 16 3 = true := by decide

-- V-TC-1
theorem test_tcP1_clears : onWord (withTca 31 63 63 31 3) 0b010010000#9 LoadPorts.zero 31 63 63 15 3 = true := by decide

-- V-TC-1
theorem test_tcP2_clears : onWord (withTca 31 63 63 31 3) 0b010100000#9 LoadPorts.zero 31 63 48 31 3 = true := by decide

-- V-TC-1
theorem test_tcP3_clears : onWord (withTca 31 63 63 31 3) 0b010110000#9 LoadPorts.zero 31 63 15 31 3 = true := by decide

-- V-TC-1
theorem test_tcP4_clears : onWord (withTca 31 63 63 31 3) 0b011000000#9 LoadPorts.zero 31 48 63 31 3 = true := by decide

-- V-TC-1
theorem test_tcP5_clears : onWord (withTca 31 63 63 31 3) 0b011010000#9 LoadPorts.zero 31 15 63 31 3 = true := by decide

-- V-TC-1
theorem test_tcP6_clears : onWord (withTca 31 63 63 31 3) 0b011100000#9 LoadPorts.zero 16 63 63 31 3 = true := by decide

-- V-TC-1
theorem test_tcP7_clears : onWord (withTca 31 63 63 31 3) 0b011110000#9 LoadPorts.zero 15 63 63 31 0 = true := by decide

-- V-TC-3
theorem test_tcP1_ignores_high_bits : onWord (withTca 0 0 0 0 0) 0b010011110#9 LoadPorts.zero 0 0 0 0 0 = true := by decide

-- V-TC-3
theorem test_tcP3_ignores_high_bits : onWord (withTca 0 0 0 0 0) 0b010111100#9 LoadPorts.zero 0 0 0 0 0 = true := by decide

-- V-TC-3
theorem test_tcP5_ignores_high_bits : onWord (withTca 0 0 0 0 0) 0b011011100#9 LoadPorts.zero 0 0 0 0 0 = true := by decide

-- V-TC-3
theorem test_tcP7_ignores_high_bits : onWord (withTca 0 0 0 0 0) 0b011111000#9 LoadPorts.zero 0 0 0 0 0 = true := by decide

-- V-TC-5, P3
theorem test_tcP0_sets : onWord (withTca 0 0 0 0 0) 0b010001101#9 LoadPorts.zero 0 0 0 13 0 = true := by decide

-- V-TC-7
theorem test_tcNop : onWord (withTca 1 2 3 4 1) 0b001011111#9 LoadPorts.zero 1 2 3 4 1 = true := by decide

-- V-TC-7
theorem test_tcRsvd : onWord (withTca 1 2 3 4 1) 0b110001111#9 LoadPorts.zero 1 2 3 4 1 = true := by decide

-- V-TC-7
theorem test_tcLoad : onWord (withTca 1 2 3 4 1) 0b101010101#9 ⟨9, 8, 7, 6, 2⟩ 9 8 7 6 2 = true := by decide

-- V-TC-4
theorem test_four_rates :
    nibWrite 7 2#4 ⟨5, 0, 0, 0, rateFilm⟩ = ⟨5, 0, 0, 0, ratePal⟩ ∧
    nibWrite 7 4#4 ⟨5, 0, 0, 0, ratePal⟩ = ⟨5, 0, 0, 0, rateDf⟩ ∧
    nibWrite 7 6#4 ⟨5, 0, 0, 0, rateDf⟩ = ⟨5, 0, 0, 0, rateNtsc⟩ ∧
    dfSep ⟨5, 0, 0, 0, rateDf⟩ = true ∧ dfSep ⟨5, 0, 0, 0, rateNtsc⟩ = false := by decide

-- E8, with the separator of each
theorem test_render_default : render Tca.reset = "00:00:00:00".toList := by decide

theorem test_render_drop_frame : render ⟨9, 8, 7, 6, rateDf⟩ = "09:08:07;06".toList := by decide

-- E7
theorem test_render_out_of_range : render ⟨31, 63, 63, 31, rateNtsc⟩ = "31:63:63:31".toList := by decide

-- V-D2-1, the port column, and V-D1-1
theorem test_event_packing :
    packEvent (.noteOff 2 0x40 0x7F) = ⟨true, 0, 2, 0x40, 0x7F⟩ ∧
    packEvent (.localControl 15 true) = ⟨true, 10, 15, 1, 0⟩ ∧
    packEvent (.pitchBend 3 8191) = ⟨true, 6, 3, 0x7F, 0x3F⟩ ∧
    packEvent (.pitchBend 3 (-8192)) = ⟨true, 6, 3, 0x00, 0x40⟩ ∧
    packEvent (.pitchBend 3 (-1)) = ⟨true, 6, 3, 0x7F, 0x7F⟩ ∧
    packEvent (.songPositionPointer 128) = ⟨true, 15, 0, 0, 1⟩ ∧
    packEvent (.mtcQuarterFrame 3 5) = ⟨true, 14, 0, 3, 5⟩ ∧
    packEvent (.systemExclusiveStartWord 0x21) = ⟨true, 25, 0, 0x21, 0⟩ ∧
    packEvent .systemReset = ⟨true, 23, 0, 0, 0⟩ := by decide

/-! ## Witnesses: a state and operands that meet all the hypotheses of a statement -/

/-- Input ports with nothing asserted. -/
def quiet : PortIn := ⟨false, false, 0x00#8, false, 0b00#2, 0#3, 0#4, LoadPorts.zero⟩

theorem witness_StepRunsDecodedInstruction :
    (State.reset.present (byteInput 0xF8#8)).inputs = .op (.dec 0xF8#8) :: [] ∧ 255 < 256 ∧ 511 < 512 := by decide

theorem witness_StepWithoutInstruction : State.reset.inputs = [] := by decide

theorem witness_DecodeOfEncodeIsIdentity :
    Instr.wf (.dAw1SysexIdByte 1#7) = true ∧ Instr.inContext (.dAw1SysexIdByte 1#7) ⟨.aw1, 0xF0#8, 0#7⟩ = true ∧
    Instr.wf (.dAw2ControlChange 0#7) = true ∧
    Instr.inContext (.dAw2ControlChange 0#7) ⟨.aw2, 0xB0#8, 0x77#7⟩ = true := by decide

theorem witness_StepKeepsInvariant_awsx : StateInv (withDec .awsx 0xF0#8 0#4 0#7) := by decide

theorem witness_StepKeepsInvariant_mode : StateInv (withDec .aw2 0xB0#8 15#4 0x7F#7) := by decide

theorem witness_StepKeepsInvariant_step :
    onByte (withDec .awsx 0xF0#8 0#4 0#7) 0x7F#8 (some (.systemExclusiveStartWord 0x7F#14)) ⟨.sxd, 0xF0#8, 0#4, 0#7⟩ =
      true := by decide

theorem witness_RealtimeByteLeavesRegisters : field 0xF8#8 3 5 = 0b11111#5 ∧ field 0xFF#8 3 5 = 0b11111#5 := by decide

theorem witness_RealtimeInsertionIsTransparent :
    eventsOf (runBytes ([0x90#8, 0xF8#8, 0x40#8].filter fun b => !isRealtime b) State.reset) = some [none, none] := by
  decide

theorem witness_StatusByteResynchronises :
    (0x80#8 ≤ 0x80#8 ∧ 0x80#8 ≤ 0xF7#8) ∧ (0x80#8 ≤ 0xEF#8 ∧ 0xEF#8 ≤ 0xF7#8) ∧ (0x80#8 ≤ 0xF7#8 ∧ 0xF7#8 ≤ 0xF7#8) := by
  decide

theorem witness_StatusByteForgetsThePast :
    isStatus 0x80#8 = true ∧ isStatus 0xF7#8 = true ∧
    eventsOf (runBytes [0x80#8, 0x40#8] (withDec .sxd 0xF0#8 0#4 0#7)) = some [none, none] := by decide

theorem witness_InterruptedBlockIsAbandoned :
    ((withDec .sxd 0xF0#8 0#4 0#7).dec.phase = .sxd) ∧ ((withDec .awsx 0xF0#8 0#4 0#7).dec.phase = .awsx) ∧
    ((withDec .aw1 0xF0#8 0#4 0#7).dec.phase = .aw1 ∧ (withDec .aw1 0xF0#8 0#4 0#7).dec.msg = 0xF0#8) ∧
    0x80#8 ≤ 0x80#8 ∧ 0x80#8 ≤ 0xF6#8 ∧ 0xF6#8 ≤ 0xF6#8 := by decide

theorem witness_IdleAbsorbsUntilStatus :
    onByte State.reset 0x7F#8 none ⟨.idle, 0x00#8, 0#4, 0#7⟩ = true ∧
    onByte State.reset 0x80#8 none ⟨.aw1, 0x80#8, 0#4, 0#7⟩ = true ∧
    onByte State.reset 0xF8#8 (some .clock) ⟨.idle, 0x00#8, 0#4, 0#7⟩ = true ∧
    State.reset.dec.phase = .idle ∧ isRealtime 0xF8#8 = true ∧ isRealtime 0xFF#8 = true ∧ isRealtime 0xF7#8 = false := by
  decide

theorem witness_UnreachableContextsAbsorb :
    (0x00#8 ∉ firstByteKinds ∧ 0xF8#8 ∉ firstByteKinds) ∧ (0xC0#8 ∉ secondByteKinds ∧ 0xF0#8 ∉ secondByteKinds) := by
  decide

theorem witness_ControllerOrAllNotesOff : 0x77#7 ≤ 0x77#7 ∧ 0x00#7 ≤ 0x77#7 ∧ ¬ 0x7B#7 ≤ 0x77#7 := by decide

theorem witness_SysexIdAndDataInstructions : 1#7 ≠ 0#7 ∧ 0x7F#7 ≠ 0#7 := by decide

theorem witness_SysexBlockOfAnyLength :
    1#7 ≠ 0#7 ∧ eventsOf (runBytes [0xF0#8, dataByte 1#7, 0xF7#8] State.reset) =
      some [none, some (.systemExclusiveStartByte 1#7), some .systemExclusiveEnd] := by decide

theorem witness_RunningStatusOneDataByte :
    ((withDec .aw1 0xC0#8 9#4 0#7).dec.phase = .aw1 ∧
      (withDec .aw1 0xC0#8 9#4 0#7).dec.msg ∈ [0xC0#8, 0xD0#8, 0xF1#8, 0xF3#8]) ∧
    ((withDec .aw1 0xF3#8 0#4 0#7).dec.phase = .aw1 ∧
      (withDec .aw1 0xF3#8 0#4 0#7).dec.msg ∈ [0xC0#8, 0xD0#8, 0xF1#8, 0xF3#8]) := by decide

theorem witness_RunningStatusTwoDataBytes :
    ((withDec .aw1 0x80#8 9#4 0#7).dec.phase = .aw1 ∧ (withDec .aw1 0x80#8 9#4 0#7).dec.msg ∈ secondByteKinds) ∧
    ((withDec .aw1 0xF2#8 0#4 0#7).dec.phase = .aw1 ∧ (withDec .aw1 0xF2#8 0#4 0#7).dec.msg ∈ secondByteKinds) := by
  decide

theorem witness_PieceOutOfRangeIsIgnored : 7 < 8 ∧ nibWrite 8 15#4 Tca.reset = Tca.reset := by decide

theorem witness_PiecesIdempotentAndCommute : (0#3 : U3) ≠ 7#3 := by decide

/-- Every piece once, with its own index as the nibble. -/
def everyPiece : List (U3 × U4) := [(7, 7), (6, 6), (5, 5), (4, 4), (3, 3), (2, 2), (1, 1), (0, 0)]

theorem witness_FullCycleLaw : ∀ p : U3, lastNibble p everyPiece = some (p.setWidth 4) := by decide

theorem witness_EachBlockLeavesTheOther :
    onByte State.reset 0xF1#8 none ⟨.aw1, 0xF1#8, 0#4, 0#7⟩ = true ∧
    onWord State.reset 0b010001111#9 LoadPorts.zero 0 0 0 15 0 = true := by decide

theorem witness_BlocksShareNothing :
    (withTca 1 2 3 4 1).dec = State.reset.dec ∧ (withDec .sxd 0xF0#8 0#4 0#7).tca = State.reset.tca ∧
    eventsOf (runInputs [byteInput 0xFA#8, updateInput 0 1, .decReset, .tcaReset] State.reset) =
      some [some .start, none, none, none] ∧
    eventsOf (runInputs [byteInput 0xFA#8, updateInput 0 1, .decReset, .tcaReset] (withDec .sxd 0xF0#8 0#4 0#7)) =
      some [some .start, none, none, none] := by decide

theorem witness_UnobservableValuesAreUnobservable :
    (State.reset.dec.phase = .idle ∧ (withDec .idle 0x90#8 3#4 0x7F#7).dec.phase = .idle ∧
      eventsOf (runInputs [byteInput 0x40#8] State.reset) = some [none]) ∧
    ((withDec .aw1 0x90#8 3#4 0x00#7).dec.phase = .aw1 ∧ (withDec .aw1 0x90#8 3#4 0x7F#7).dec.phase = .aw1 ∧
      (withDec .aw1 0x90#8 3#4 0x00#7).dec.msg = (withDec .aw1 0x90#8 3#4 0x7F#7).dec.msg ∧
      (withDec .aw1 0x90#8 3#4 0x00#7).dec.ch = (withDec .aw1 0x90#8 3#4 0x7F#7).dec.ch ∧
      eventsOf (runInputs [byteInput 0x40#8] (withDec .aw1 0x90#8 3#4 0x00#7)) = some [none]) := by decide

theorem witness_RstWinsAndIdleHolds :
    { quiet with decRst := true, inValid := true }.decRst = true ∧
    { quiet with tcaRst := true, tcOp := 0b01#2 }.tcaRst = true ∧
    (quiet.decRst = false ∧ quiet.tcaRst = false ∧ quiet.inValid = false ∧ quiet.tcOp = 0b00#2) := by decide

theorem witness_PortsShowEventAndRegisters :
    ({ quiet with inValid := true, inByte := 0xF8#8 }.decRst = false ∧
      { quiet with inValid := true, inByte := 0xF8#8 }.inValid = true) ∧
    ({ quiet with decRst := true, inValid := true }.decRst = true ∨
      { quiet with decRst := true, inValid := true }.inValid = false) ∧
    (quiet.decRst = true ∨ quiet.inValid = false) := by decide

theorem witness_EventPackingTable : (-8192 : Int) ≤ -8192 ∧ (-8192 : Int) ≤ 8191 ∧ (8191 : Int) ≤ 8191 := by decide

theorem witness_EventPackingLosesNothing :
    eventInDomain (.pitchBend 3 8191) = true ∧ eventInDomain (.pitchBend 3 (-8192)) = true ∧
    eventInDomain (.controllerChange 15 0x77 0x7F) = true ∧ eventInDomain (.systemExclusiveStartByte 1) = true ∧
    eventInDomain (.systemExclusiveStartWord 0x7F) = true ∧
    packEvent (.songSelect 5) = packEvent (.songSelect 5) := by decide

end Sys2Proof.Tests
end

/-! # The two blocks and the ports (00_scope.md)

DEC and TCA share no register, so a step is a product: the DEC registers and the output are functions of the DEC
registers before it, and the TCA registers a function of the TCA registers before it. The product carries over to
runs, which settles O45, and to one clock cycle, which settles O49. -/

namespace Sys2Proof.Machine

/-! ## Which block an instruction belongs to -/

/-- The instructions of TCA, the rows of 45_timecode.md; all others are DEC's. -/
def isTcaInstr : Instr → Bool
  | .tcNop _ | .tcP0 _ | .tcP1 _ | .tcP2 _ | .tcP3 _ | .tcP4 _ | .tcP5 _ | .tcP6 _ | .tcP7 _ | .tcLoad _ _
  | .tcRsvd _ => true
  | _ => false

theorem isTcaInstr_decodeRealtime (r : U3) : isTcaInstr (decodeRealtime r) = false := by
  unfold decodeRealtime; split_ifs <;> rfl

theorem isTcaInstr_decodeSystem (k : U3) : isTcaInstr (decodeSystem k) = false := by
  unfold decodeSystem; split_ifs <;> rfl

theorem isTcaInstr_decodeChannelVoice (h c : U4) : isTcaInstr (decodeChannelVoice h c) = false := by
  unfold decodeChannelVoice; split_ifs <;> rfl

theorem isTcaInstr_decodeFirstData (m : Byte) (d : U7) : isTcaInstr (decodeFirstData m d) = false := by
  rcases decodeFirstData_cases m d with
    ⟨-, h⟩ | ⟨-, h⟩ | ⟨-, h⟩ | ⟨-, h⟩ | ⟨-, h⟩ | ⟨-, h⟩ | ⟨-, h⟩ |
    ⟨-, h⟩ | ⟨-, h⟩ | ⟨-, h⟩ | ⟨-, -, h⟩ | ⟨-, -, h⟩ | ⟨-, h⟩ | ⟨-, h⟩ <;>
  rw [h] <;> rfl

theorem isTcaInstr_decodeControl (p d : U7) : isTcaInstr (decodeControl p d) = false := by
  rcases decodeControl_cases p d with
    ⟨-, h⟩ | ⟨-, h⟩ | ⟨-, h⟩ | ⟨-, h⟩ | ⟨-, h⟩ | ⟨-, h⟩ | ⟨-, h⟩ | ⟨-, h⟩ | ⟨-, h⟩ <;>
  rw [h] <;> rfl

theorem isTcaInstr_decodeSecondData (m : Byte) (p d : U7) : isTcaInstr (decodeSecondData m p d) = false := by
  rcases decodeSecondData_cases m p d with
    ⟨-, h⟩ | ⟨-, h⟩ | ⟨-, h⟩ | ⟨-, h⟩ | ⟨-, h⟩ | ⟨-, h⟩ | ⟨-, h⟩
  case inr.inr.inr.inl => rw [h]; exact isTcaInstr_decodeControl p d
  all_goals rw [h]; rfl

theorem isTcaInstr_decodeData (c : Context) (d : U7) : isTcaInstr (decodeData c d) = false := by
  obtain ⟨phase, msg, pend⟩ := c
  cases phase with
  | aw1 => exact isTcaInstr_decodeFirstData msg d
  | aw2 => exact isTcaInstr_decodeSecondData msg pend d
  | _ => rfl

/-- A byte is read as an instruction of DEC, whatever the context (R81). -/
theorem isTcaInstr_decodeByte (c : Context) (b : Byte) : isTcaInstr (decodeByte c b) = false := by
  unfold decodeByte
  split_ifs
  · exact isTcaInstr_decodeRealtime _
  · exact isTcaInstr_decodeSystem _
  · exact isTcaInstr_decodeChannelVoice _ _
  · exact isTcaInstr_decodeData c _

/-- A TCA word is read as an instruction of TCA (R99, R101). -/
theorem isTcaInstr_decodeTc (w : TcWord) (ld : LoadPorts) : isTcaInstr (decodeTc w ld) = true := by
  unfold decodeTc decodePiece; split_ifs <;> rfl

/-! ## What one instruction reads and writes -/

/-- An instruction of DEC writes the DEC registers and the output, from the DEC registers alone: what it writes in one
state it writes in every state with the same DEC registers, and the rest is kept. -/
theorem exec_of_decInstr {i : Instr} (h : isTcaInstr i = false) (s₀ : State) :
    ∃ t₀ : State, exec i s₀ = .next t₀ ∧ ∀ s : State,
      exec i { s with dec := s₀.dec } = .next { s with dec := t₀.dec, event := t₀.event } := by
  cases i with
  | tcNop | tcP0 | tcP1 | tcP2 | tcP3 | tcP4 | tcP5 | tcP6 | tcP7 | tcLoad | tcRsvd => cases h
  | _ => exact ⟨_, rfl, fun _ => rfl⟩

/-- An instruction of TCA writes the TCA registers, from the TCA registers alone, and emits nothing. -/
theorem exec_of_tcaInstr {i : Instr} (h : isTcaInstr i = true) :
    ∃ g : Tca → Tca, ∀ s : State, exec i s = .next { s with tca := g s.tca, event := none } := by
  cases i with
  | tcNop | tcRsvd => exact ⟨id, fun _ => rfl⟩
  | tcP0 n => exact ⟨nibWrite 0 n, fun _ => rfl⟩
  | tcP1 n => exact ⟨nibWrite 1 n, fun _ => rfl⟩
  | tcP2 n => exact ⟨nibWrite 2 n, fun _ => rfl⟩
  | tcP3 n => exact ⟨nibWrite 3 n, fun _ => rfl⟩
  | tcP4 n => exact ⟨nibWrite 4 n, fun _ => rfl⟩
  | tcP5 n => exact ⟨nibWrite 5 n, fun _ => rfl⟩
  | tcP6 n => exact ⟨nibWrite 6 n, fun _ => rfl⟩
  | tcP7 n => exact ⟨nibWrite 7 n, fun _ => rfl⟩
  | tcLoad _ ld => exact ⟨fun _ => ⟨ld.hour, ld.minute, ld.second, ld.frame, ld.rate⟩, fun _ => rfl⟩
  | _ => cases h

/-! ## What one step reads and writes -/

/-- A byte's step: new DEC registers and an output, both from the DEC registers; the rest is kept. -/
theorem step_present_byteInput (b : Byte) :
    ∃ (f : Dec → Dec) (e : Dec → Option MidiEvent), ∀ s : State,
      step (s.present (byteInput b)) = .next { s with dec := f s.dec, event := e s.dec } := by
  choose t₀ _ h using fun r : Dec =>
    exec_of_decInstr (isTcaInstr_decodeByte r.context b) { State.reset with dec := r }
  exact ⟨fun r => (t₀ r).dec, fun r => (t₀ r).event, fun s => h s.dec s⟩

/-- A TCA word's step: new TCA registers from the TCA registers, and no output; the rest is kept. -/
theorem step_present_tcWord (w : TcWord) (ld : LoadPorts) :
    ∃ g : Tca → Tca, ∀ s : State,
      step (s.present (.op (.tca w ld))) = .next { s with tca := g s.tca, event := none } :=
  exec_of_tcaInstr (isTcaInstr_decodeTc w ld)

/-- Every step is a product of a function of DEC and a function of TCA (R2, R55). -/
theorem step_present_product (x : Input) :
    ∃ (f : Dec → Dec) (e : Dec → Option MidiEvent) (g : Tca → Tca), ∀ s : State,
      step (s.present x) = .next ⟨f s.dec, g s.tca, e s.dec, s.inputs⟩ := by
  match x with
  | .op (.dec b) =>
    obtain ⟨f, e, h⟩ := step_present_byteInput b
    exact ⟨f, e, id, h⟩
  | .op (.tca w ld) =>
    obtain ⟨g, h⟩ := step_present_tcWord w ld
    exact ⟨id, fun _ => none, g, h⟩
  | .decReset => exact ⟨fun _ => Dec.reset, fun _ => none, id, fun _ => rfl⟩
  | .tcaReset => exact ⟨id, fun _ => none, fun _ => Tca.reset, fun _ => rfl⟩

/-- Every run is such a product, and ends: its outputs and its last DEC registers are functions of the first DEC
registers, its last TCA registers of the first TCA registers. -/
theorem runInputs_product (xs : List Input) :
    ∃ (f : Dec → Dec) (es : Dec → List (Option MidiEvent)) (g : Tca → Tca), ∀ s : State, ∃ u : State,
      runInputs xs s = .next (es s.dec, u) ∧ u.dec = f s.dec ∧ u.tca = g s.tca := by
  induction xs with
  | nil => exact ⟨id, fun _ => [], id, fun s => ⟨s, rfl, rfl, rfl⟩⟩
  | cons x xs ih =>
    obtain ⟨f, es, g, hrun⟩ := ih
    obtain ⟨f₁, e₁, g₁, hstep⟩ := step_present_product x
    refine ⟨fun r => f (f₁ r), fun r => e₁ r :: es (f₁ r), fun t => g (g₁ t), fun s => ?_⟩
    obtain ⟨u, hu, hdec, htca⟩ := hrun ⟨f₁ s.dec, g₁ s.tca, e₁ s.dec, s.inputs⟩
    exact ⟨u, runInputs_cons (hstep s) hu, hdec, htca⟩

/-- Settles O45: a run is a product of a function of DEC and a function of TCA. -/
theorem blocksShareNothing : Obligations.BlocksShareNothing := by
  constructor
  · intro xs s s' u es hdec hrun
    obtain ⟨f, fes, g, h⟩ := runInputs_product xs
    obtain ⟨v, hv, hvdec, -⟩ := h s
    obtain ⟨v', hv', hvdec', -⟩ := h s'
    cases hv.symm.trans hrun
    exact ⟨v', by rw [hv', hdec], by rw [hvdec', hvdec, hdec]⟩
  · intro xs s s' u u' es es' htca hrun hrun'
    obtain ⟨f, fes, g, h⟩ := runInputs_product xs
    obtain ⟨v, hv, -, hvtca⟩ := h s
    obtain ⟨v', hv', -, hvtca'⟩ := h s'
    cases hv.symm.trans hrun
    cases hv'.symm.trans hrun'
    rw [hvtca', hvtca, htca]

/-- Settles O44: a byte is read as an instruction of DEC and a TCA word as one of TCA. -/
theorem eachBlockLeavesTheOther : Obligations.EachBlockLeavesTheOther := by
  constructor
  · intro s t b hstep
    obtain ⟨f, e, h⟩ := step_present_byteInput b
    cases (h s).symm.trans hstep
    exact ⟨rfl, rfl⟩
  · intro s t w ld hstep
    obtain ⟨g, h⟩ := step_present_tcWord w ld
    cases (h s).symm.trans hstep
    exact ⟨rfl, rfl, rfl⟩

/-! ## One clock cycle -/

/-- TCA's transaction of a clock cycle: there is one in every cycle (R51). -/
def tcaInput (i : PortIn) : Input :=
  if i.tcaRst then .tcaReset else .op (.tca (i.tcOp ++ (i.tcPiece ++ i.tcData)) i.ld)

theorem cycleInputs_eq (i : PortIn) : cycleInputs i =
    (if i.decRst then [.decReset] else if i.inValid then [byteInput i.inByte] else []) ++ [tcaInput i] := rfl

theorem tcaCycle_eq_step (i : PortIn) (s : State) : tcaCycle i s = step (s.present (tcaInput i)) := by
  unfold tcaCycle tcaInput; split <;> rfl

/-- A cycle in which DEC has the transaction x: the run of x and TCA's, with x's output. -/
theorem clockEdge_of_decInput {i : PortIn} {x : Input} {s : State} (hx : decCycle i s = step (s.present x)) :
    ∃ t u : State, step (s.present x) = .next t ∧ runInputs [x, tcaInput i] s = .next ([t.event, u.event], u) ∧
      clockEdge i s = .next (u.emit t.event) := by
  obtain ⟨f, e, g, hdec⟩ := step_present_product x
  obtain ⟨f', e', g', htca⟩ := step_present_product (tcaInput i)
  refine ⟨_, _, hdec s, runInputs_cons (hdec s) (runInputs_cons (htca _) rfl), ?_⟩
  simp only [clockEdge, hx, tcaCycle_eq_step, hdec, htca, andThen_next]

/-- A cycle in which DEC has no transaction: TCA's alone, without an output. -/
theorem clockEdge_of_decIdle {i : PortIn} {s : State} (hx : decCycle i s = absorb s) :
    ∃ u : State, runInputs [tcaInput i] s = .next ([u.event], u) ∧ clockEdge i s = .next (u.emit none) := by
  obtain ⟨f, e, g, htca⟩ := step_present_product (tcaInput i)
  refine ⟨_, runInputs_cons (htca s) rfl, ?_⟩
  simp only [clockEdge, hx, absorb, tcaCycle_eq_step, htca, andThen_next]
  rfl

/-- Settles O49: by what DEC has in the cycle, its rst, a byte, or nothing. -/
theorem clockEdgeRunsTransactions : Obligations.ClockEdgeRunsTransactions := by
  intro i s
  by_cases hrst : i.decRst = true
  · obtain ⟨t, u, hstep, hrun, hedge⟩ := clockEdge_of_decInput (i := i) (x := .decReset) (s := s)
      (by simp [decCycle, hrst])
    have ht : t.event = none := by cases hstep; rfl
    refine ⟨[t.event, u.event], u, ?_, ?_⟩
    · simpa [cycleInputs_eq, hrst] using hrun
    · simpa [hrst, ht, State.emit] using hedge
  by_cases hvalid : i.inValid = true
  · obtain ⟨t, u, -, hrun, hedge⟩ := clockEdge_of_decInput (i := i) (x := byteInput i.inByte) (s := s)
      (by simp [decCycle, hrst, hvalid, byteInput, decode])
    refine ⟨[t.event, u.event], u, ?_, ?_⟩
    · simpa [cycleInputs_eq, hrst, hvalid] using hrun
    · simpa [hrst, hvalid, State.emit] using hedge
  · obtain ⟨u, hrun, hedge⟩ := clockEdge_of_decIdle (i := i) (s := s) (by simp [decCycle, hrst, hvalid])
    refine ⟨[u.event], u, ?_, ?_⟩
    · simpa [cycleInputs_eq, hrst, hvalid] using hrun
    · simpa [hvalid, State.emit] using hedge

end Sys2Proof.Machine

/-! # The invariant (10_state.md R36, R47)

The decoder gives an instruction in its own context only, so R36 is kept instruction by instruction: each shared
operation leaves registers that fit the phase it enters, and emits an event within the domains of R47. This settles O7
and O8. -/

namespace Sys2Proof.Machine

/-! ## The decoder gives an instruction of the context -/

/-- A data byte is read as a well-formed row of its own context (R85, R105). -/
theorem decodeData_belongs (c : Context) (d : U7) :
    (decodeData c d).wf = true ∧ (decodeData c d).inContext c = true := by
  obtain ⟨phase, msg, pend⟩ := c
  cases phase with
  | aw1 =>
    simp only [decodeData]
    rcases decodeFirstData_cases msg d with
      ⟨hm, h⟩ | ⟨hm, h⟩ | ⟨hm, h⟩ | ⟨hm, h⟩ | ⟨hm, h⟩ | ⟨hm, h⟩ | ⟨hm, h⟩ |
      ⟨hm, h⟩ | ⟨hm, h⟩ | ⟨hm, h⟩ | ⟨hm, -, h⟩ | ⟨hm, hd, h⟩ | ⟨hm, h⟩ | ⟨hm, h⟩ <;>
    rw [h] <;> simp [Instr.wf, Instr.inContext, *]
  | aw2 =>
    simp only [decodeData]
    rcases decodeSecondData_cases msg pend d with
      ⟨hm, h⟩ | ⟨hm, h⟩ | ⟨hm, h⟩ | ⟨hm, h⟩ | ⟨hm, h⟩ | ⟨hm, h⟩ | ⟨hm, h⟩
    case inr.inr.inr.inl =>
      rcases decodeControl_cases pend d with
        ⟨hp, h'⟩ | ⟨hp, h'⟩ | ⟨hp, h'⟩ | ⟨hp, h'⟩ | ⟨hp, h'⟩ | ⟨hp, h'⟩ | ⟨hp, h'⟩ | ⟨hp, h'⟩ | ⟨hp, h'⟩ <;>
      rw [h, h'] <;> simp [Instr.wf, Instr.inContext, hm, hp]
    all_goals rw [h]; simp [Instr.wf, Instr.inContext, hm]
  | _ => simp [decodeData, Instr.wf, Instr.inContext]

/-- Every word is read as a well-formed instruction that belongs to the context it is read in. -/
theorem decode_belongs (c : Context) (w : OpWord) :
    (decode c w).wf = true ∧ (decode c w).inContext c = true := by
  match w with
  | .dec b =>
    simp only [decode, decodeByte]
    split_ifs
    · unfold decodeRealtime; split_ifs <;> exact ⟨rfl, rfl⟩
    · unfold decodeSystem; split_ifs <;> exact ⟨rfl, rfl⟩
    · unfold decodeChannelVoice; split_ifs <;> exact ⟨rfl, rfl⟩
    · exact decodeData_belongs c _
  | .tca w ld =>
    simp only [decode, decodeTc, decodePiece]
    split_ifs <;> exact ⟨rfl, rfl⟩

/-! ## What each register write does to R36 -/

/-- After a channel-voice status byte: the kind is one of AW1's, with a zero low nibble. -/
theorem decInv_of_channelStatus {h : U4} (hlow : 0x8#4 ≤ h) (hhigh : h ≤ 0xE#4) (c : U4) :
    DecInv ⟨.aw1, channelKind h, c, clearedPend⟩ := by
  revert h c; decide

/-- After a system-common status byte: the kind is one of AW1's, and the channel is cleared. -/
theorem decInv_of_systemStatus {m : Byte} (hm : m ∈ firstByteKinds) (hsys : field m 4 4 = 0xF#4) :
    DecInv ⟨.aw1, m, clearedChannel, clearedPend⟩ := by
  refine ⟨by simp, nofun, fun _ => hm, nofun, nofun, nofun, fun _ => rfl, fun hn => ?_⟩
  rw [hsys] at hn
  exact absurd hn.2 (by decide)

section
variable {r : Dec} (hinv : DecInv r)
include hinv

theorem decInv_holdFirst (hm : r.msg ∈ secondByteKinds) (d : U7) : DecInv { r with phase := .aw2, pend := d } := by
  obtain ⟨-, -, -, -, -, -, hch, hlow⟩ := hinv
  exact ⟨by simp, nofun, nofun, fun _ => hm, nofun, nofun, hch, hlow⟩

/-- The six kinds of AW2 are among the fifteen of AW1. -/
theorem decInv_completeMessage (hp : r.phase = .aw2) : DecInv { r with phase := .aw1 } := by
  obtain ⟨-, -, -, haw2, -, -, hch, hlow⟩ := hinv
  have hsub : secondByteKinds ⊆ firstByteKinds := by decide
  exact ⟨by simp, nofun, fun _ => hsub (haw2 hp), nofun, nofun, nofun, hch, hlow⟩

theorem decInv_openSysex (hm : r.msg = 0xF0#8) : DecInv { r with phase := .sxd } := by
  obtain ⟨-, -, -, -, -, -, hch, hlow⟩ := hinv
  exact ⟨by simp, nofun, nofun, nofun, nofun, fun _ => hm, hch, hlow⟩

theorem decInv_awaitSysexLowByte (hm : r.msg = 0xF0#8) : DecInv { r with phase := .awsx, pend := 0#7 } := by
  obtain ⟨-, -, -, -, -, -, hch, hlow⟩ := hinv
  exact ⟨by simp, nofun, nofun, nofun, fun _ => ⟨hm, rfl⟩, nofun, hch, hlow⟩

end

/-! ## The event fields whose types do not say their domain -/

/-- 14 bits less the centre are within s14 (R91). -/
theorem pitchBend_inDomain (c : U4) (msb lsb : U7) : eventInDomain (.pitchBend c (pitchAmount msb lsb)) = true := by
  have hlt := (u14 msb lsb).isLt
  refine decide_eq_true ?_
  simp only [pitchAmount, pitchCentre]
  omega

/-- A control number below the channel-mode numbers is a controller (R185). -/
theorem controllerChange_inDomain {p : U7} (hp : p < 0x78#7) (c : U4) (d : U7) :
    eventInDomain (.controllerChange c p d) = true := by
  simp only [eventInDomain, decide_eq_true_eq]
  bv_omega

/-- A two-byte ID whose first byte is zero is below 0x80 (R223). -/
theorem systemExclusiveStartWord_inDomain (d : U7) :
    eventInDomain (.systemExclusiveStartWord (sysexWordId 0#7 d)) = true := by
  revert d; decide

/-! ## The invariant -/

/-- An instruction executed in its own context keeps R36 and emits within R47. -/
theorem exec_keeps_stateInv {i : Instr} {s t : State} (hwf : i.wf = true) (hctx : i.inContext s.dec.context = true)
    (hinv : DecInv s.dec) (h : exec i s = .next t) : StateInv t := by
  cases i with
  | stNoteOff c | stNoteOn c | stPolyAt c | stControlChange c | stProgramChange c | stChannelAt c | stPitchBend c =>
    cases h; exact ⟨decInv_of_channelStatus (by decide) (by decide) c, rfl⟩
  | stSysexStart | stMtcQuarterFrame | stSongPosition | stSongSelect | stUndefF4 | stUndefF5 | stTuneRequest
  | stSysexEnd =>
    cases h; exact ⟨decInv_of_systemStatus (by decide) (by decide), rfl⟩
  | dAw1NoteOff1 d | dAw1NoteOn1 d | dAw1PolyAt1 d | dAw1ControlChange1 d | dAw1PitchBend1 d | dAw1SongPosition1 d =>
    obtain ⟨-, hm⟩ := of_decide_eq_true hctx
    have hm2 : s.dec.msg ∈ secondByteKinds := by rw [← Dec.context_msg, hm]; decide
    cases h; exact ⟨decInv_holdFirst hinv hm2 d, rfl⟩
  | dAw1SysexIdByte d =>
    obtain ⟨-, hm⟩ := of_decide_eq_true hctx
    cases h; exact ⟨decInv_openSysex hinv hm, hwf⟩
  | dAw1SysexIdZero =>
    obtain ⟨-, hm⟩ := of_decide_eq_true hctx
    cases h; exact ⟨decInv_awaitSysexLowByte (r := s.dec) hinv hm, rfl⟩
  | dAwsxSysexIdLow d =>
    have hp : s.dec.phase = .awsx := of_decide_eq_true hctx
    obtain ⟨-, -, -, -, hawsx, -⟩ := id hinv
    obtain ⟨hm, hpend⟩ := hawsx hp
    cases h; exact ⟨decInv_openSysex hinv hm, by simpa [hpend] using systemExclusiveStartWord_inDomain d⟩
  | dAw2ControlChange d =>
    obtain ⟨hp, -, hpend⟩ := of_decide_eq_true hctx
    cases h; exact ⟨decInv_completeMessage hinv hp, controllerChange_inDomain hpend s.dec.ch d⟩
  | dAw2PitchBend d =>
    obtain ⟨hp, -⟩ := of_decide_eq_true hctx
    cases h; exact ⟨decInv_completeMessage hinv hp, pitchBend_inDomain s.dec.ch d s.dec.pend⟩
  | dAw2NoteOff | dAw2NoteOn | dAw2PolyAt | dAw2AllSoundOff | dAw2ResetAllControllers | dAw2LocalControl
  | dAw2AllNotesOff | dAw2OmniOff | dAw2OmniOn | dAw2MonoMode | dAw2PolyMode | dAw2SongPosition =>
    obtain ⟨hp, -⟩ := of_decide_eq_true hctx
    cases h; exact ⟨decInv_completeMessage hinv hp, rfl⟩
  | _ => cases h; exact ⟨hinv, rfl⟩

/-- Settles O7. -/
theorem invariantHoldsAtReset : Obligations.InvariantHoldsAtReset := by
  unfold Obligations.InvariantHoldsAtReset
  decide

/-- Settles O8: by what the step finds to do; an instruction is executed in its own context. -/
theorem stepKeepsInvariant : Obligations.StepKeepsInvariant := by
  rintro s t ⟨hdec, -⟩ hstep
  rcases step_cases hstep with ⟨-, rfl⟩ | ⟨w, rest, -, hexec⟩ | ⟨rest, -, rfl⟩ | ⟨rest, -, rfl⟩
  · exact ⟨hdec, rfl⟩
  · obtain ⟨hwf, hctx⟩ := decode_belongs s.dec.context w
    exact exec_keeps_stateInv (s := { s with inputs := rest }) hwf hctx hdec hexec
  · exact ⟨invariantHoldsAtReset.1, rfl⟩
  · exact ⟨hdec, rfl⟩

end Sys2Proof.Machine

/-! # The registers no output depends on (10_state.md R34, R52, 43_data_second.md R198)

Two states whose registers agree wherever a later step can read them before it writes them have the same outputs for
ever. In IDLE nothing but PHASE is readable, and in AW1 PEND is not, which settles O46. -/

namespace Sys2Proof.Machine

/-! ## States that no later output tells apart -/

/-- The registers that a later step can read before it writes them are the same: PHASE always, MSG and CH in AW1 and
AW2, PEND in AW2 and AWSX. -/
structure SameReadable (r r' : Dec) : Prop where
  phase : r.phase = r'.phase
  msg   : r.phase = .aw1 ∨ r.phase = .aw2 → r.msg = r'.msg
  ch    : r.phase = .aw1 ∨ r.phase = .aw2 → r.ch = r'.ch
  pend  : r.phase = .aw2 ∨ r.phase = .awsx → r.pend = r'.pend

theorem SameReadable.refl (r : Dec) : SameReadable r r := ⟨rfl, fun _ => rfl, fun _ => rfl, fun _ => rfl⟩

theorem sameReadable_of_idle {r r' : Dec} (h : r.phase = .idle) (h' : r'.phase = .idle) : SameReadable r r' :=
  ⟨by rw [h, h'], by simp [h], by simp [h], by simp [h]⟩

theorem sameReadable_of_aw1 {r r' : Dec} (h : r.phase = .aw1) (h' : r'.phase = .aw1) (hm : r.msg = r'.msg)
    (hc : r.ch = r'.ch) : SameReadable r r' :=
  ⟨by rw [h, h'], fun _ => hm, fun _ => hc, by simp [h]⟩

section
variable {r r' : Dec} (h : SameReadable r r')
include h

/-- A word is read as the same instruction: the context dispatch looks at readable registers only. -/
theorem decode_sameReadable (w : OpWord) : decode r.context w = decode r'.context w := by
  match w with
  | .tca w ld => rfl
  | .dec b =>
    simp only [decode]
    by_cases hd : isData b = true
    · rw [eq_dataByte_of_isData hd, decodeByte_dataByte, decodeByte_dataByte]
      obtain ⟨hphase, hmsg, -, hpend⟩ := h
      simp only [decodeData, Dec.context_phase, Dec.context_msg, Dec.context_pend, ← hphase]
      cases hp : r.phase with
      | aw1 => simp only [hmsg (.inl hp)]
      | aw2 => simp only [hmsg (.inr hp), hpend (.inl hp)]
      | _ => rfl
    · exact decodeByte_of_not_isData (by simpa using hd) _ _

theorem sameReadable_holdFirst (hp : r.phase = .aw1) (d : U7) :
    SameReadable { r with phase := .aw2, pend := d } { r' with phase := .aw2, pend := d } :=
  ⟨rfl, fun _ => h.msg (.inl hp), fun _ => h.ch (.inl hp), fun _ => rfl⟩

theorem sameReadable_completeMessage (hp : r.phase = .aw2) :
    SameReadable { r with phase := .aw1 } { r' with phase := .aw1 } :=
  sameReadable_of_aw1 rfl rfl (h.msg (.inr hp)) (h.ch (.inr hp))

end

/-- In SXD only PHASE is readable. -/
theorem sameReadable_openSysex (r r' : Dec) : SameReadable { r with phase := .sxd } { r' with phase := .sxd } :=
  ⟨rfl, by simp, by simp, by simp⟩

/-- In AWSX only PHASE and PEND are readable. -/
theorem sameReadable_awaitSysexLowByte (r r' : Dec) :
    SameReadable { r with phase := .awsx, pend := 0#7 } { r' with phase := .awsx, pend := 0#7 } :=
  ⟨rfl, by simp, by simp, fun _ => rfl⟩

/-- Two outcomes with the same output, and registers that no later output tells apart. -/
def SameOutcome (o o' : Result) : Prop :=
  ∃ t t' : State, o = .next t ∧ o' = .next t' ∧ t.event = t'.event ∧ SameReadable t.dec t'.dec

/-- An instruction in its own context reads readable registers only, and writes what it makes readable. -/
theorem exec_sameOutcome {i : Instr} {s s' : State} (hctx : i.inContext s.dec.context = true)
    (h : SameReadable s.dec s'.dec) : SameOutcome (exec i s) (exec i s') := by
  cases i with
  | stNoteOff | stNoteOn | stPolyAt | stControlChange | stProgramChange | stChannelAt | stPitchBend | stSysexStart
  | stMtcQuarterFrame | stSongPosition | stSongSelect | stUndefF4 | stUndefF5 | stTuneRequest | stSysexEnd =>
    exact ⟨_, _, rfl, rfl, rfl, .refl _⟩
  | dAw1ProgramChange | dAw1ChannelAt =>
    obtain ⟨hp, -⟩ := of_decide_eq_true hctx
    exact ⟨_, _, rfl, rfl, by simp [h.ch (.inl hp)], h⟩
  | dAw1NoteOff1 d | dAw1NoteOn1 d | dAw1PolyAt1 d | dAw1ControlChange1 d | dAw1PitchBend1 d | dAw1SongPosition1 d =>
    obtain ⟨hp, -⟩ := of_decide_eq_true hctx
    exact ⟨_, _, rfl, rfl, rfl, sameReadable_holdFirst h hp d⟩
  | dAw1SysexIdByte => exact ⟨_, _, rfl, rfl, rfl, sameReadable_openSysex _ _⟩
  | dAw1SysexIdZero => exact ⟨_, _, rfl, rfl, rfl, sameReadable_awaitSysexLowByte s.dec s'.dec⟩
  | dAwsxSysexIdLow d =>
    have hp : s.dec.phase = .awsx := of_decide_eq_true hctx
    exact ⟨_, _, rfl, rfl, by simp [h.pend (.inr hp)], sameReadable_openSysex s.dec s'.dec⟩
  | dAw2NoteOff | dAw2NoteOn | dAw2PolyAt | dAw2ControlChange | dAw2AllSoundOff | dAw2ResetAllControllers
  | dAw2LocalControl | dAw2AllNotesOff | dAw2OmniOff | dAw2OmniOn | dAw2MonoMode | dAw2PolyMode | dAw2PitchBend
  | dAw2SongPosition =>
    obtain ⟨hp, -⟩ := of_decide_eq_true hctx
    have hch := h.ch (.inr hp)
    have hpend := h.pend (.inl hp)
    exact ⟨_, _, rfl, rfl, by simp [hch, hpend], sameReadable_completeMessage h hp⟩
  | _ => exact ⟨_, _, rfl, rfl, rfl, h⟩

/-- The same input to two such states gives the same output, and two such states again. -/
theorem step_sameOutcome (x : Input) {s s' : State} (h : SameReadable s.dec s'.dec) :
    SameOutcome (step (s.present x)) (step (s'.present x)) := by
  match x with
  | .op w =>
    rw [step_present_op, step_present_op, ← decode_sameReadable h w]
    exact exec_sameOutcome (decode_belongs _ w).2 h
  | .decReset => exact ⟨_, _, rfl, rfl, rfl, .refl _⟩
  | .tcaReset => exact ⟨_, _, rfl, rfl, rfl, h⟩

/-- Runs of the same inputs from two such states give the same outputs. -/
theorem runInputs_sameOutputs (xs : List Input) {s s' : State} (h : SameReadable s.dec s'.dec) :
    ∃ (es : List (Option MidiEvent)) (u u' : State),
      runInputs xs s = .next (es, u) ∧ runInputs xs s' = .next (es, u') := by
  induction xs generalizing s s' with
  | nil => exact ⟨[], s, s', rfl, rfl⟩
  | cons x xs ih =>
    obtain ⟨t, t', hstep, hstep', hevent, hdec⟩ := step_sameOutcome x h
    obtain ⟨es, u, u', hrun, hrun'⟩ := ih hdec
    exact ⟨t.event :: es, u, u', runInputs_cons hstep hrun, hevent ▸ runInputs_cons hstep' hrun'⟩

/-- The outputs of a run from one of two such states are outputs of the run from the other. -/
theorem runInputs_transfer {xs : List Input} {s s' u : State} {es : List (Option MidiEvent)}
    (h : SameReadable s.dec s'.dec) (hrun : runInputs xs s = .next (es, u)) :
    ∃ u' : State, runInputs xs s' = .next (es, u') := by
  obtain ⟨es', v, v', hv, hv'⟩ := runInputs_sameOutputs xs h
  cases hv.symm.trans hrun
  exact ⟨v', hv'⟩

/-- Settles O46: the registers it lets differ are not readable in IDLE and in AW1. -/
theorem unobservableValuesAreUnobservable : Obligations.UnobservableValuesAreUnobservable :=
  ⟨fun _ _ _ _ _ hp hp' hrun => runInputs_transfer (sameReadable_of_idle hp hp') hrun,
   fun _ _ _ _ _ hp hp' hm hc hrun => runInputs_transfer (sameReadable_of_aw1 hp hp' hm hc) hrun⟩

end Sys2Proof.Machine

/-! # Reset, the idle step and the ports (10_state.md R49 to R53)

Each block's half of a clock cycle is a reset, an operation or nothing, which settles O50 and O51; the event port can be
read back, which settles O52. The tables of reset and of the packing settle O2, O6 and O53. -/

namespace Sys2Proof.Machine

/-! ## Idle and reset -/

/-- Settles O6. -/
theorem resetState : Obligations.ResetState := by
  unfold Obligations.ResetState
  decide

/-- Settles O2. -/
theorem stepWithoutInstruction : Obligations.StepWithoutInstruction :=
  ⟨fun _ h => step_of_no_input h, step_present_decReset, step_present_tcaReset⟩

/-! ## One block in one cycle -/

section
variable {i : PortIn} (s : State)

theorem decCycle_of_rst (hrst : i.decRst = true) : decCycle i s = .next s.resetDec := by
  simp [decCycle, hrst]

/-- An accepted byte is one step on that byte (R49). -/
theorem decCycle_of_byte (hrst : i.decRst = false) (hvalid : i.inValid = true) :
    decCycle i s = step (s.present (byteInput i.inByte)) := by
  simp [decCycle, hrst, hvalid, byteInput, decode]

theorem decCycle_of_idle (hrst : i.decRst = false) (hvalid : i.inValid = false) :
    decCycle i s = .next (s.emit none) := by
  simp [decCycle, hrst, hvalid, absorb]

/-- DEC's half of a cycle always answers a next state. -/
theorem decCycle_next (i : PortIn) : ∃ t : State, decCycle i s = .next t := by
  cases hrst : i.decRst with
  | true => exact ⟨_, decCycle_of_rst s hrst⟩
  | false =>
    cases hvalid : i.inValid with
    | true =>
      obtain ⟨f, e, h⟩ := step_present_byteInput i.inByte
      exact ⟨_, (decCycle_of_byte s hrst hvalid).trans (h s)⟩
    | false => exact ⟨_, decCycle_of_idle s hrst hvalid⟩

theorem tcaCycle_of_rst (hrst : i.tcaRst = true) : tcaCycle i s = .next s.resetTca := by
  simp [tcaCycle, hrst]

/-- With tc_op 00 the operation is NOP, whatever the piece and the nibble (R51, R252). -/
theorem tcaCycle_of_nop (hrst : i.tcaRst = false) (hop : i.tcOp = 0b00#2) :
    tcaCycle i s = .next (s.emit none) := by
  have hfield : ∀ x : U7, field (0b00#2 ++ x) 7 2 = 0b00#2 := by decide
  simp only [tcaCycle, hrst, hop, decodeTc, hfield]
  rfl

end

/-- TCA's half of a cycle writes TCA registers only. -/
theorem tcaCycle_next (i : PortIn) :
    ∃ g : Tca → Tca, ∀ s : State, tcaCycle i s = .next { s with tca := g s.tca, event := none } := by
  cases hrst : i.tcaRst with
  | true => exact ⟨fun _ => Tca.reset, fun s => tcaCycle_of_rst s hrst⟩
  | false =>
    obtain ⟨g, h⟩ := step_present_tcWord (i.tcOp ++ (i.tcPiece ++ i.tcData)) i.ld
    exact ⟨g, fun s => by rw [← h s]; simp [tcaCycle, hrst, decode]⟩

/-! ## Both blocks in one cycle -/

/-- The ports of a cycle in which DEC goes to t: t's event, and the TCA registers before the edge. -/
theorem portOutputs_of_decCycle {i : PortIn} {s t : State} (h : decCycle i s = .next t) :
    portOutputs i s = .next
      ⟨eventPort t.event, s.tca.hour, s.tca.minute, s.tca.second, s.tca.frame, s.tca.rate, dfSep s.tca⟩ := by
  simp [portOutputs, h]

theorem clockEdge_of_cycles {i : PortIn} {s t u : State} (ht : decCycle i s = .next t)
    (hu : tcaCycle i t = .next u) : clockEdge i s = .next (u.emit t.event) := by
  simp [clockEdge, ht, hu]

/-- Settles O50: rst comes first in each block's half of the cycle, and without it a quiet block holds. -/
theorem rstWinsAndIdleHolds : Obligations.RstWinsAndIdleHolds := by
  refine ⟨fun i s hrst => ?_, fun i s hrst => ?_, fun i s hdec htca hvalid hop => ?_⟩
  · have ht := decCycle_of_rst s hrst
    obtain ⟨g, hu⟩ := tcaCycle_next i
    exact ⟨_, _, portOutputs_of_decCycle ht, rfl, clockEdge_of_cycles ht (hu _), rfl⟩
  · obtain ⟨t, ht⟩ := decCycle_next s i
    exact ⟨_, clockEdge_of_cycles ht (tcaCycle_of_rst t hrst), rfl⟩
  · have ht := decCycle_of_idle s hdec hvalid
    have hu := tcaCycle_of_nop (s.emit none) htca hop
    have hedge := clockEdge_of_cycles ht hu
    exact ⟨hedge, _, portOutputs_of_decCycle ht, rfl⟩

@[simp] theorem packEvent_valid (e : MidiEvent) : (packEvent e).valid = true := by
  cases e <;> rfl

theorem eventPort_valid_iff (e : Option MidiEvent) : (eventPort e).valid = true ↔ e ≠ none := by
  cases e with
  | none => simp [eventPort, EventPort.idle]
  | some e => simp [eventPort]

/-- Settles O51: by what DEC has in the cycle, its rst, a byte, or nothing. -/
theorem portsShowEventAndRegisters : Obligations.PortsShowEventAndRegisters := by
  intro i s
  obtain ⟨t, ht⟩ := decCycle_next s i
  refine ⟨_, portOutputs_of_decCycle ht, ⟨rfl, rfl, rfl, rfl, rfl, decide_eq_true_iff⟩, fun hquiet => ?_,
    fun hrst hvalid => ?_⟩
  · have hnone : t.event = none := by
      cases hrst : i.decRst with
      | true => cases (decCycle_of_rst s hrst).symm.trans ht; rfl
      | false =>
        have hvalid : i.inValid = false := by simpa [hrst] using hquiet
        cases (decCycle_of_idle s hrst hvalid).symm.trans ht; rfl
    rw [hnone]; rfl
  · exact ⟨t, (decCycle_of_byte s hrst hvalid).symm.trans ht, rfl, eventPort_valid_iff t.event⟩

/-! ## The event port packing -/

/-- A 14-bit value is its high and its low part put together (R90). -/
theorem u14_fields (w : U14) : u14 (field w 7 7) (field w 0 7) = w :=
  BitVec.extractLsb'_append_extractLsb'

/-- The two data outputs of a 14-bit field are its low and its high part (R50). -/
theorem wide_append (kind : BitVec 5) (ch : BitVec 4) (high low : U7) :
    wide kind ch (high ++ low) = ⟨true, kind, ch, low, high⟩ := by
  have hlow : field (high ++ low) 0 7 = low := BitVec.extractLsb'_append_eq_right
  have hhigh : field (high ++ low) 7 7 = high := BitVec.extractLsb'_append_eq_left
  rw [wide, hlow, hhigh]

/-- Two's complement in 14 bits is exact on s14 (R9, R91). -/
theorem toInt_ofInt_of_s14 {a : Int} (hlow : -8192 ≤ a) (hhigh : a ≤ 8191) : (BitVec.ofInt 14 a).toInt = a :=
  BitVec.toInt_ofInt_eq_self (by decide) hlow (Int.lt_add_one_of_le hhigh)

/-- The event that an event port with ev_valid shows: the table of R47 and R50 read backwards. -/
def unpackEvent (p : EventPort) : MidiEvent :=
  match p.kind.toNat with
  | 0 => .noteOff p.ch p.d1 p.d2
  | 1 => .noteOn p.ch p.d1 p.d2
  | 2 => .polyphonicAfterTouch p.ch p.d1 p.d2
  | 3 => .controllerChange p.ch p.d1 p.d2
  | 4 => .programChange p.ch p.d1
  | 5 => .channelAfterTouch p.ch p.d1
  | 6 => .pitchBend p.ch (u14 p.d2 p.d1).toInt
  | 7 => .allSoundOff
  | 8 => .resetAllControllers
  | 9 => .allNotesOff p.ch
  | 10 => .localControl p.ch (localOn p.d1)
  | 11 => .omniMode p.ch (localOn p.d1)
  | 12 => .monoMode p.ch p.d1
  | 13 => .polyphonicMode p.ch
  | 14 => .mtcQuarterFrame (p.d1.setWidth 3) (p.d2.setWidth 4)
  | 15 => .songPositionPointer (u14 p.d2 p.d1)
  | 16 => .songSelect p.d1
  | 17 => .tuneRequest
  | 18 => .clock
  | 19 => .start
  | 20 => .continue_
  | 21 => .stop
  | 22 => .activeSensing
  | 23 => .systemReset
  | 24 => .systemExclusiveStartByte p.d1
  | 25 => .systemExclusiveStartWord (u14 p.d2 p.d1)
  | 26 => .systemExclusiveData p.d1
  | _ => .systemExclusiveEnd

/-- Reading the port gives the event back: the fields fit the outputs, the 14-bit ones in two parts. -/
theorem unpackEvent_packEvent {e : MidiEvent} (h : eventInDomain e = true) : unpackEvent (packEvent e) = e := by
  cases e with
  | pitchBend c a =>
    obtain ⟨hlow, hhigh⟩ := of_decide_eq_true h
    simp [packEvent, unpackEvent, wide, u14_fields, toInt_ofInt_of_s14 hlow hhigh]
  | localControl c on | omniMode c on => cases on <;> rfl
  | mtcQuarterFrame p n => revert p n; decide
  | songPositionPointer w | systemExclusiveStartWord w => simp [packEvent, unpackEvent, wide, u14_fields]
  | _ => rfl

/-- Settles O52: the packing has a left inverse on the domains of R47. -/
theorem eventPackingLosesNothing : Obligations.EventPackingLosesNothing := by
  intro e e' he he' hpack
  rw [← unpackEvent_packEvent he, hpack, unpackEvent_packEvent he']

/-- Settles O53: the table's rows are the clauses of packEvent; the 14-bit fields are cut and put together. -/
theorem eventPackingTable : Obligations.EventPackingTable := by
  refine ⟨fun _ => rfl, rfl, fun c k v => ?_, ?_, fun high low => ?_, fun c amount hlow hhigh => ?_, ?_⟩
  · simp [packEvent, onBit]
  · decide
  · exact ⟨wide_append _ _ high low, wide_append _ _ high low⟩
  · refine ⟨field (BitVec.ofInt 14 amount) 7 7, field (BitVec.ofInt 14 amount) 0 7, rfl, ?_⟩
    exact (congrArg BitVec.toInt (u14_fields _)).trans (toInt_ofInt_of_s14 hlow hhigh)
  · decide

end Sys2Proof.Machine

/-! # Instruction words and nibble writes (20_memory.md)

A presented word is decoded and executed, which settles O1. A timecode is its eight nibbles, and a nibble write sets one
entry of their list, which settles O42. -/

namespace Sys2Proof.Machine

/-! ## The word presented by the host -/

section
variable (s : State) {w : Nat}

theorem withFetchWord_byte (hw : w < 256) : s.withFetchWord 8 w = s.present (.op (.dec (BitVec.ofNat 8 w))) := by
  simp [State.withFetchWord, wordOfTable, hw]

theorem withFetchWord_tcWord (hw : w < 512) :
    s.withFetchWord 16 w = s.present (.op (.tca (BitVec.ofNat 9 w) LoadPorts.zero)) := by
  simp [State.withFetchWord, wordOfTable, hw]

end

/-- Settles O1: each of the four forms presents the word to a state that the step then executes it in. -/
theorem stepRunsDecodedInstruction : Obligations.StepRunsDecodedInstruction := by
  refine ⟨fun s w rest hinputs => ?_, step_present_op, fun s w hw => ?_, fun s w hw => ?_⟩
  · exact (congrArg step (State.eq_present hinputs)).trans (step_present_op _ w)
  · rw [withFetchWord_byte s hw, step_present_op]; rfl
  · rw [withFetchWord_tcWord s hw, step_present_op]; rfl

/-! ## The timecode as a list of nibbles -/

/-- The timecode that eight nibbles send: nibblesOf read backwards. -/
def timecodeOf : List U4 → Tca
  | [n0, n1, n2, n3, n4, n5, n6, n7] =>
    { frame := field n1 0 1 ++ n0
      second := field n3 0 2 ++ n2
      minute := field n5 0 2 ++ n4
      hour := field n7 0 1 ++ n6
      rate := field n7 1 2 }
  | _ => Tca.reset

theorem rejoin5 (r : BitVec 5) : field ((field r 4 1).setWidth 4) 0 1 ++ field r 0 4 = r := by
  revert r; decide

theorem rejoin6 (r : BitVec 6) : field ((field r 4 2).setWidth 4) 0 2 ++ field r 0 4 = r := by
  revert r; decide

/-- The last nibble holds HOUR[4] in bit 0 and RATE in bits 2:1 (R249). -/
theorem field_lastNibble (rate : BitVec 2) (hour : BitVec 1) :
    field ((rate ++ hour).setWidth 4 : U4) 0 1 = field (hour.setWidth 4) 0 1 ∧
      field ((rate ++ hour).setWidth 4 : U4) 1 2 = rate := by
  revert rate hour; decide

/-- RATE above HOUR[4]: together the low three bits of piece 7's nibble (R249). -/
theorem join_pieceSeven (n : U4) : field n 1 2 ++ field n 0 1 = field n 0 3 := by
  revert n; decide

theorem timecodeOf_nibblesOf (t : Tca) : timecodeOf (nibblesOf t) = t := by
  simp only [nibblesOf, timecodeOf, field_lastNibble, rejoin5, rejoin6]

theorem nibblesOf_injective : Function.Injective nibblesOf :=
  Function.LeftInverse.injective timecodeOf_nibblesOf

/-- The bits of the nibble that piece a writes; the others it ignores (R242 to R249). -/
def heldBits (a : Nat) (n : U4) : U4 :=
  match a with
  | 1 => (field n 0 1).setWidth 4
  | 3 | 5 => (field n 0 2).setWidth 4
  | 7 => (field n 0 3).setWidth 4
  | _ => n

/-- A nibble write sets the entry of its piece and keeps the others (R61, R255); an index above 7 sets none. -/
theorem nibblesOf_nibWrite (a : Nat) (n : U4) (t : Tca) :
    nibblesOf (nibWrite a n t) = (nibblesOf t).set a (heldBits a n) := by
  match a with
  | 0 | 1 | 2 | 3 | 4 | 5 | 6 => simp [nibWrite, nibblesOf, heldBits]
  | 7 =>
    simp [nibWrite, nibblesOf, heldBits, join_pieceSeven]
  | a + 8 => rfl

/-- A piece leaves nothing of what the same piece wrote before it. -/
theorem nibWrite_nibWrite_same (a : Nat) (n n' : U4) (t : Tca) :
    nibWrite a n (nibWrite a n' t) = nibWrite a n t :=
  nibblesOf_injective (by simp only [nibblesOf_nibWrite, List.set_set])

/-- Two pieces set different entries. -/
theorem nibWrite_comm {a b : Nat} (h : a ≠ b) (n n' : U4) (t : Tca) :
    nibWrite a n (nibWrite b n' t) = nibWrite b n' (nibWrite a n t) :=
  nibblesOf_injective (by simp only [nibblesOf_nibWrite, List.set_comm _ _ h])

/-- Settles O42: both clauses are those of setting entries of a list. -/
theorem piecesIdempotentAndCommute : Obligations.PiecesIdempotentAndCommute :=
  ⟨fun p => nibWrite_nibWrite_same p.toNat,
   fun _ _ n n' t hne => nibWrite_comm (fun h => hne (BitVec.eq_of_toNat_eq h)) n n' t⟩

end Sys2Proof.Machine

/-! # The encodings and the transition table (30_encoding.md)

Encoding undoes decoding format by format, and decoding undoes encoding row by row in the row's own context, which
settles O5 and O4. So every step on a byte executes an instruction on its own byte in its own context, and for these
R105 is checked instruction by instruction, which settles O10. The lemmas of the 14-bit values and of the TCA words
settle O31 and O39; O3 is a table of words. -/

namespace Sys2Proof.Machine

/-! ## Encoding a decoded byte -/

theorem encode_decodeRealtime (r : U3) : encode (decodeRealtime r) = .dec (0b11111#5 ++ r) := by
  revert r; decide

theorem encode_decodeSystem (k : U3) : encode (decodeSystem k) = .dec (0b11110#5 ++ k) := by
  revert k; decide

theorem encode_decodeChannelVoice {h : U4} (hlow : 0x8#4 ≤ h) (hhigh : h ≤ 0xE#4) (c : U4) :
    encode (decodeChannelVoice h c) = .dec (h ++ c) := by
  revert h c; decide

theorem encode_decodeFirstData (m : Byte) (d : U7) : encode (decodeFirstData m d) = .dec (dataByte d) := by
  rcases decodeFirstData_cases m d with
    ⟨-, h⟩ | ⟨-, h⟩ | ⟨-, h⟩ | ⟨-, h⟩ | ⟨-, h⟩ | ⟨-, h⟩ | ⟨-, h⟩ |
    ⟨-, h⟩ | ⟨-, h⟩ | ⟨-, h⟩ | ⟨-, hd, h⟩ | ⟨-, -, h⟩ | ⟨-, h⟩ | ⟨-, h⟩
  case inr.inr.inl =>
    have hjoin : field d 4 3 ++ field d 0 4 = d := BitVec.extractLsb'_append_extractLsb'
    rw [h, encode, hjoin]; rfl
  case inr.inr.inr.inr.inr.inr.inr.inr.inr.inr.inl => rw [h, hd]; rfl
  all_goals rw [h]; rfl

theorem encode_decodeControl (p d : U7) : encode (decodeControl p d) = .dec (dataByte d) := by
  rcases decodeControl_cases p d with
    ⟨-, h⟩ | ⟨-, h⟩ | ⟨-, h⟩ | ⟨-, h⟩ | ⟨-, h⟩ | ⟨-, h⟩ | ⟨-, h⟩ | ⟨-, h⟩ | ⟨-, h⟩ <;>
  rw [h] <;> rfl

theorem encode_decodeSecondData (m : Byte) (p d : U7) : encode (decodeSecondData m p d) = .dec (dataByte d) := by
  rcases decodeSecondData_cases m p d with
    ⟨-, h⟩ | ⟨-, h⟩ | ⟨-, h⟩ | ⟨-, h⟩ | ⟨-, h⟩ | ⟨-, h⟩ | ⟨-, h⟩
  case inr.inr.inr.inl => rw [h]; exact encode_decodeControl p d
  all_goals rw [h]; rfl

/-- Every row of a data byte is encoded as the data byte, whatever the context (R85). -/
theorem encode_decodeData (c : Context) (d : U7) : encode (decodeData c d) = .dec (dataByte d) := by
  obtain ⟨phase, msg, pend⟩ := c
  cases phase with
  | aw1 => exact encode_decodeFirstData msg d
  | aw2 => exact encode_decodeSecondData msg pend d
  | _ => rfl

/-- A status byte that is no realtime byte and has the high nibble 0xF is of format S-SYS (R83). -/
theorem field_of_system {b : Byte} (hrt : field b 3 5 ≠ 0b11111#5) (hsys : field b 4 4 = 0xF#4) :
    field b 3 5 = 0b11110#5 := by
  revert b; decide

/-- A status byte without the high nibble 0xF is of format S-CH (R82). -/
theorem field_of_channelVoice {b : Byte} (hstatus : field b 7 1 = 0b1#1) (hsys : field b 4 4 ≠ 0xF#4) :
    0x8#4 ≤ field b 4 4 ∧ field b 4 4 ≤ 0xE#4 := by
  revert b; decide

theorem isData_of_field {b : Byte} (h : field b 7 1 ≠ 0b1#1) : isData b = true := by
  revert b; decide

theorem encode_decodeByte (c : Context) (b : Byte) : encode (decodeByte c b) = .dec b := by
  have hlow3 : field b 3 5 ++ field b 0 3 = b := BitVec.extractLsb'_append_extractLsb'
  have hlow4 : field b 4 4 ++ field b 0 4 = b := BitVec.extractLsb'_append_extractLsb'
  unfold decodeByte
  split_ifs with hrt hstatus hsys
  · rw [encode_decodeRealtime, ← hrt, hlow3]
  · rw [encode_decodeSystem, ← field_of_system hrt hsys, hlow3]
  · obtain ⟨hlow, hhigh⟩ := field_of_channelVoice hstatus hsys
    rw [encode_decodeChannelVoice hlow hhigh, hlow4]
  · rw [encode_decodeData]
    exact congrArg _ (eq_dataByte_of_isData (isData_of_field hstatus)).symm

/-! ## TCA words -/

theorem field_tcOp (op : BitVec 2) (x : U7) : field (op ++ x) 7 2 = op :=
  BitVec.extractLsb'_append_eq_left

theorem field_tcRest (op : BitVec 2) (x : U7) : field (op ++ x) 0 7 = x :=
  BitVec.extractLsb'_append_eq_right

theorem decodeTc_nop (x : U7) (ld : LoadPorts) : decodeTc (0b00#2 ++ x) ld = .tcNop x := by
  simp [decodeTc, field_tcOp, field_tcRest]

theorem decodeTc_update (p : U3) (n : U4) (ld : LoadPorts) : decodeTc (0b01#2 ++ (p ++ n)) ld = decodePiece p n := by
  have hpiece : field (0b01#2 ++ (p ++ n)) 4 3 = p ∧ field (0b01#2 ++ (p ++ n)) 0 4 = n := by
    revert p n; decide
  simp [decodeTc, field_tcOp, hpiece]

theorem decodeTc_load (x : U7) (ld : LoadPorts) : decodeTc (0b10#2 ++ x) ld = .tcLoad x ld := by
  simp [decodeTc, field_tcOp, field_tcRest]

theorem decodeTc_rsvd (x : U7) (ld : LoadPorts) : decodeTc (0b11#2 ++ x) ld = .tcRsvd x := by
  simp [decodeTc, field_tcOp, field_tcRest]

/-- The four operation codes are the whole of the 512 words (R99 to R101). -/
theorem tcWord_cases (w : TcWord) :
    (∃ x : U7, w = 0b00#2 ++ x) ∨ (∃ (p : U3) (n : U4), w = 0b01#2 ++ (p ++ n)) ∨
    (∃ x : U7, w = 0b10#2 ++ x) ∨ (∃ x : U7, w = 0b11#2 ++ x) := by
  have hw : field w 7 2 ++ field w 0 7 = w := BitVec.extractLsb'_append_extractLsb'
  have hx : field w 4 3 ++ field w 0 4 = field w 0 7 := by revert w; decide
  have hop : ∀ op : BitVec 2, op = 0b00#2 ∨ op = 0b01#2 ∨ op = 0b10#2 ∨ op = 0b11#2 := by decide
  rcases hop (field w 7 2) with h | h | h | h <;> rw [h] at hw
  · exact .inl ⟨_, hw.symm⟩
  · exact .inr (.inl ⟨_, _, by rw [hx, hw]⟩)
  · exact .inr (.inr (.inl ⟨_, hw.symm⟩))
  · exact .inr (.inr (.inr ⟨_, hw.symm⟩))

theorem encode_decodePiece (p : U3) (n : U4) :
    encode (decodePiece p n) = .tca (0b01#2 ++ (p ++ n)) LoadPorts.zero := by
  revert p n; decide

theorem encode_decodeTc (w : TcWord) (ld : LoadPorts) :
    encode (decodeTc w ld) = .tca w (if field w 7 2 = 0b10#2 then ld else LoadPorts.zero) := by
  rcases tcWord_cases w with ⟨x, rfl⟩ | ⟨p, n, rfl⟩ | ⟨x, rfl⟩ | ⟨x, rfl⟩
  · rw [decodeTc_nop, field_tcOp]; rfl
  · rw [decodeTc_update, encode_decodePiece, field_tcOp]; rfl
  · rw [decodeTc_load, field_tcOp]; rfl
  · rw [decodeTc_rsvd, field_tcOp]; rfl

/-- Settles O5: encoding undoes decoding in each format, and the decoder gives an instruction of the context. -/
theorem encodeOfDecodeIsIdentity : Obligations.EncodeOfDecodeIsIdentity := by
  refine ⟨fun c b => ?_, fun c w ld => ?_⟩
  · obtain ⟨hwf, hctx⟩ := decode_belongs c (.dec b)
    exact ⟨hwf, hctx, encode_decodeByte c b⟩
  · obtain ⟨hwf, hctx⟩ := decode_belongs c (.tca w ld)
    exact ⟨hwf, hctx, encode_decodeTc w ld⟩

/-! ## Decoding an encoded instruction -/

theorem decodeByte_channelVoice (c : Context) {h : U4} (hlow : 0x8#4 ≤ h) (hhigh : h ≤ 0xE#4) (ch : U4) :
    decodeByte c (h ++ ch) = decodeChannelVoice h ch := by
  have hb : field (h ++ ch) 3 5 ≠ 0b11111#5 ∧ field (h ++ ch) 7 1 = 0b1#1 ∧ h ≠ 0xF#4 := by
    revert h ch; decide
  have hfield : field (h ++ ch) 4 4 = h ∧ field (h ++ ch) 0 4 = ch :=
    ⟨BitVec.extractLsb'_append_eq_left, BitVec.extractLsb'_append_eq_right⟩
  simp only [decodeByte, hb, hfield, if_true, if_false]

theorem decodeByte_aw1 (c : Context) (d : U7) (hp : c.phase = .aw1) :
    decodeByte c (dataByte d) = decodeFirstData c.msg d := by
  rw [decodeByte_dataByte, decodeData, hp]

theorem decodeByte_aw2 (c : Context) (d : U7) (hp : c.phase = .aw2) :
    decodeByte c (dataByte d) = decodeSecondData c.msg c.pend d := by
  rw [decodeByte_dataByte, decodeData, hp]

theorem decode_encode_decodePiece (c : Context) (p : U3) (n : U4) :
    decode c (encode (decodePiece p n)) = decodePiece p n := by
  rw [encode_decodePiece]
  exact decodeTc_update p n _

/-- A well-formed instruction is read back from its own word, a data byte's row in its own context (R85, R105). -/
theorem decode_encode {i : Instr} {c : Context} (hwf : i.wf = true) (hctx : i.inContext c = true) :
    decode c (encode i) = i := by
  cases i with
  | stNoteOff ch | stNoteOn ch | stPolyAt ch | stControlChange ch | stProgramChange ch | stChannelAt ch
  | stPitchBend ch => exact decodeByte_channelVoice c (by decide) (by decide) ch
  | dIdle d | dAwsxSysexIdLow d | dSxdSysexData d =>
    have hp := of_decide_eq_true hctx
    exact (decodeByte_dataByte c d).trans (by rw [decodeData, hp])
  | dAw1ProgramChange d | dAw1ChannelAt d | dAw1SongSelect d | dAw1NoteOff1 d | dAw1NoteOn1 d | dAw1PolyAt1 d
  | dAw1ControlChange1 d | dAw1PitchBend1 d | dAw1SongPosition1 d =>
    obtain ⟨hp, hm⟩ := of_decide_eq_true hctx
    exact (decodeByte_aw1 c d hp).trans (by rw [hm]; rfl)
  | dAw1SysexIdByte d =>
    obtain ⟨hp, hm⟩ := of_decide_eq_true hctx
    exact (decodeByte_aw1 c d hp).trans (by rw [hm]; exact if_neg (of_decide_eq_true hwf))
  | dAw1SysexIdZero =>
    obtain ⟨hp, hm⟩ := of_decide_eq_true hctx
    exact (decodeByte_aw1 c 0#7 hp).trans (by rw [hm]; rfl)
  | dAw1MtcQuarterFrame p n =>
    obtain ⟨hp, hm⟩ := of_decide_eq_true hctx
    have hpiece : field (p ++ n) 4 3 = p := BitVec.extractLsb'_append_eq_left
    have hnibble : field (p ++ n) 0 4 = n := BitVec.extractLsb'_append_eq_right
    refine (decodeByte_aw1 c (p ++ n) hp).trans ?_
    rw [hm, ← congrArg₂ Instr.dAw1MtcQuarterFrame hpiece hnibble]; rfl
  | dAw1UndefinedKind d =>
    obtain ⟨hp, hm⟩ := of_decide_eq_true hctx
    refine (decodeByte_aw1 c d hp).trans ?_
    simp only [undefinedKinds, List.mem_cons, List.not_mem_nil, or_false] at hm
    rcases hm with hm | hm | hm | hm <;> rw [hm] <;> rfl
  | dUnreachable d =>
    rcases of_decide_eq_true hctx with ⟨hp, hm⟩ | hp | hp | hp
    case inl =>
      refine (decodeByte_aw1 c d hp).trans ?_
      simp only [firstByteKinds, List.mem_cons, List.not_mem_nil, or_false, not_or] at hm
      simp [decodeFirstData, hm]
    all_goals exact (decodeByte_dataByte c d).trans (by rw [decodeData, hp])
  | dAw2NoteOff d | dAw2NoteOn d | dAw2PolyAt d | dAw2PitchBend d | dAw2SongPosition d =>
    obtain ⟨hp, hm⟩ := of_decide_eq_true hctx
    exact (decodeByte_aw2 c d hp).trans (by rw [hm]; rfl)
  | dAw2ControlChange d =>
    obtain ⟨hp, hm, hpend⟩ := of_decide_eq_true hctx
    have hnoMode : field c.pend 3 4 ≠ 0b1111#4 := by
      generalize c.pend = pend at hpend ⊢
      revert pend; decide
    exact (decodeByte_aw2 c d hp).trans (by rw [hm]; exact if_neg hnoMode)
  | dAw2AllSoundOff d | dAw2ResetAllControllers d | dAw2LocalControl d | dAw2AllNotesOff d | dAw2OmniOff d
  | dAw2OmniOn d | dAw2MonoMode d | dAw2PolyMode d =>
    obtain ⟨hp, hm, hpend⟩ := of_decide_eq_true hctx
    exact (decodeByte_aw2 c d hp).trans (by rw [hm, hpend]; rfl)
  | dAw2Unreachable d =>
    obtain ⟨hp, hm⟩ := of_decide_eq_true hctx
    refine (decodeByte_aw2 c d hp).trans ?_
    simp only [secondByteKinds, List.mem_cons, List.not_mem_nil, or_false, not_or] at hm
    simp [decodeSecondData, hm]
  | tcNop x => exact decodeTc_nop x _
  | tcP0 n => exact decode_encode_decodePiece c 0#3 n
  | tcP1 n => exact decode_encode_decodePiece c 1#3 n
  | tcP2 n => exact decode_encode_decodePiece c 2#3 n
  | tcP3 n => exact decode_encode_decodePiece c 3#3 n
  | tcP4 n => exact decode_encode_decodePiece c 4#3 n
  | tcP5 n => exact decode_encode_decodePiece c 5#3 n
  | tcP6 n => exact decode_encode_decodePiece c 6#3 n
  | tcP7 n => exact decode_encode_decodePiece c 7#3 n
  | tcLoad x ld => exact decodeTc_load x ld
  | tcRsvd x => exact decodeTc_rsvd x _
  | _ => rfl

/-- Settles O4: by the instruction, whose context selects the decoder's branch. -/
theorem decodeOfEncodeIsIdentity : Obligations.DecodeOfEncodeIsIdentity :=
  fun _ _ hwf hctx => decode_encode hwf hctx

/-- Settles O3. -/
theorem specWordsDecode : Obligations.SpecWordsDecode := by
  unfold Obligations.SpecWordsDecode
  decide

/-- Settles O39: the words are those of the three operation codes that ignore the piece and the nibble. -/
theorem loadNopReservedOperations : Obligations.LoadNopReservedOperations :=
  fun x ld _ => ⟨⟨decodeTc_load x ld, rfl⟩, ⟨decodeTc_nop x ld, rfl⟩, ⟨decodeTc_rsvd x ld, rfl⟩⟩

/-! ## 14-bit values -/

theorem u14_toNat (msb lsb : U7) : (u14 msb lsb).toNat = 128 * msb.toNat + lsb.toNat := by
  rw [u14, BitVec.toNat_append, ← Nat.shiftLeft_add_eq_or_of_lt lsb.isLt, Nat.shiftLeft_eq]
  omega

theorem composed_eq_u14 (first second : U7) : composed first second = (u14 second first).toNat :=
  (BitVec.toNat_append second first).symm

@[simp] theorem ofNat_composed (first second : U7) : BitVec.ofNat 14 (composed first second) = u14 second first := by
  rw [composed_eq_u14, BitVec.ofNat_toNat, BitVec.setWidth_eq]

theorem pitchAmount_eq (msb lsb : U7) :
    pitchAmount msb lsb = 128 * (msb.toNat : Int) + (lsb.toNat : Int) - 8192 := by
  simp only [pitchAmount, pitchCentre, u14_toNat]
  omega

/-- Less the centre is, in 14 bits, bit 13 inverted: the top bit of the second data byte (R91). -/
theorem ofInt_pitchAmount (msb lsb : U7) :
    BitVec.ofInt 14 (pitchAmount msb lsb) = (u14 msb lsb) ^^^ 0x2000#14 := by
  have hmsb : (msb ^^^ 0x40#7).toNat = (msb.toNat + 64) % 128 := by revert msb; decide
  have hxor : u14 msb lsb ^^^ 0x2000#14 = u14 (msb ^^^ 0x40#7) lsb := by
    simpa [u14] using BitVec.xor_append (x₁ := msb) (x₂ := 0x40#7) (y₁ := lsb) (y₂ := 0#7)
  apply BitVec.eq_of_toNat_eq
  rw [hxor, u14_toNat, hmsb, BitVec.toNat_ofInt, pitchAmount_eq]
  omega

/-- Settles O31: the two data outputs of the port, put together, are the amount in 14 bits. -/
theorem pitchBendInstruction : Obligations.PitchBendInstruction := by
  intro p d s
  have hraw : u14 d s.dec.pend = (d.setWidth 14 <<< 7) ||| s.dec.pend.setWidth 14 :=
    (BitVec.setWidth_eq _).symm.trans BitVec.setWidth_append_eq_shiftLeft_setWidth_or
  have hamount := pitchAmount_eq d s.dec.pend
  refine ⟨decodeByte_dataByte _ d, pitchAmount d s.dec.pend, hamount, by omega, by omega, rfl, ?_⟩
  exact (u14_fields _).trans ((ofInt_pitchAmount d s.dec.pend).trans (by rw [hraw]))

/-! ## The rows of R105 -/

/-- Of the rows, the first that applies to b in s gives the outcome o. -/
def FollowsRows (rows : List TransitionRow) (b : Byte) (s : State) (o : Result) : Prop :=
  ∃ row : TransitionRow, rows.find? (fun row => row.applies b s.dec) = some row ∧
    o = .next { s with dec := row.next b s.dec, event := row.emits b s.dec }

@[simp] theorem followsRows_cons {row : TransitionRow} {rows : List TransitionRow} {b : Byte} {s : State} {o : Result} :
    FollowsRows (row :: rows) b s o ↔
      if row.applies b s.dec then o = .next { s with dec := row.next b s.dec, event := row.emits b s.dec }
      else FollowsRows rows b s o := by
  cases h : row.applies b s.dec <;> simp [FollowsRows, h]

@[simp] theorem dataOf_dataByte (d : U7) : dataOf (dataByte d) = d := by
  revert d; decide

@[simp] theorem dataByte_eq_zero_iff (d : U7) : dataByte d = 0x00#8 ↔ d = 0#7 := by
  revert d; decide

/-- The piece is bits 6:4 of the byte and the nibble bits 3:0 (R92). -/
theorem quarterFrame_fields (p : U3) (n : U4) :
    (dataByte (p ++ n) >>> 4).setWidth 3 = p ∧ (dataByte (p ++ n)).setWidth 4 = n := by
  revert p n; decide

/-- LocalControl is on when the value byte is not zero (R188). -/
@[simp] theorem modeEvent_localControl (ch : U4) (d : U7) : modeEvent 0x7A#7 ch d = .localControl ch (localOn d) := by
  have hon : (d.toNat != 0) = localOn d := by revert d; decide
  simp [modeEvent, hon]

/-- Row 3: a channel-voice status byte. -/
theorem followsRows_channelVoice {h : U4} (hlow : 0x8#4 ≤ h) (hhigh : h ≤ 0xE#4) (c : U4) (s : State) :
    FollowsRows transitionTable (h ++ c) s (resynchronise (channelKind h) c none s) := by
  have hskip : (h ++ c : Byte) ∉ [0xF8#8, 0xFA#8, 0xFB#8, 0xFC#8, 0xFE#8, 0xFF#8] ∧
      (h ++ c : Byte) ∉ [0xF9#8, 0xFD#8] := by
    revert h c; decide
  have happlies : 0x80#8 ≤ (h ++ c : Byte) ∧ (h ++ c : Byte) ≤ 0xEF#8 := by
    revert h c; decide
  have hregs : (h ++ c : Byte) &&& 0xF0#8 = channelKind h ∧ (h ++ c : Byte).setWidth 4 = c := by
    revert h c; decide
  simp only [transitionTable, followsRows_cons, hskip, happlies, hregs, and_self, decide_true, decide_false, if_true,
    Bool.false_eq_true, if_false]
  rfl

/-- Rows 1 to 6 are for the realtime and status bytes. -/
theorem followsRows_dataByte {d : U7} {s : State} {o : Result}
    (h : FollowsRows (transitionTable.drop 6) (dataByte d) s o) : FollowsRows transitionTable (dataByte d) s o := by
  have hreset : ∀ d : U7, (transitionTable.take 6).all (fun row => !row.applies (dataByte d) Dec.reset) := by decide
  have hskip : (transitionTable.take 6).all (fun row => !row.applies (dataByte d) s.dec) := hreset d
  have hnone : (transitionTable.take 6).find? (fun row => row.applies (dataByte d) s.dec) = none :=
    List.find?_eq_none.2 (by simpa only [List.all_eq_true, Bool.not_eq_true', Bool.not_eq_true] using hskip)
  obtain ⟨row, hfind, ho⟩ := h
  refine ⟨row, ?_, ho⟩
  rw [← List.take_append_drop 6 transitionTable, List.find?_append, hnone, hfind, Option.none_or]

/-- Rows 7 to 16 are for a data byte in IDLE and AW1. -/
theorem followsRows_after_aw1 {d : U7} {s : State} {o : Result} (hidle : s.dec.phase ≠ .idle)
    (haw1 : s.dec.phase ≠ .aw1) (h : FollowsRows (transitionTable.drop 16) (dataByte d) s o) :
    FollowsRows transitionTable (dataByte d) s o := by
  refine followsRows_dataByte ?_
  simpa [transitionTable, hidle, haw1] using h

/-- An instruction in its own context, on its own byte, does what the first row that applies says. -/
theorem exec_followsRows {i : Instr} {b : Byte} {s : State} (hwf : i.wf = true)
    (hctx : i.inContext s.dec.context = true) (henc : encode i = .dec b) :
    FollowsRows transitionTable b s (exec i s) := by
  obtain ⟨⟨phase, msg, ch, pend⟩, tca, event, inputs⟩ := s
  cases i with
  -- Rows 1, 2, 4, 5 and 6.
  | rtClock | rtUndefF9 | rtStart | rtContinue | rtStop | rtUndefFd | rtActiveSensing | rtSystemReset | stSysexStart
  | stMtcQuarterFrame | stSongPosition | stSongSelect | stUndefF4 | stUndefF5 | stTuneRequest | stSysexEnd =>
    cases henc; exact ⟨_, rfl, rfl⟩
  -- Row 3.
  | stNoteOff c | stNoteOn c | stPolyAt c | stControlChange c | stProgramChange c | stChannelAt c | stPitchBend c =>
    cases henc; exact followsRows_channelVoice (by decide) (by decide) c _
  -- Row 7.
  | dIdle d =>
    obtain rfl : phase = _ := of_decide_eq_true hctx
    cases henc; exact followsRows_dataByte ⟨_, rfl, rfl⟩
  -- Rows 8, 9, 11 and 12.
  | dAw1ProgramChange d | dAw1ChannelAt d | dAw1SongSelect d | dAw1NoteOff1 d | dAw1NoteOn1 d | dAw1PolyAt1 d
  | dAw1ControlChange1 d | dAw1PitchBend1 d | dAw1SongPosition1 d =>
    obtain ⟨rfl, rfl⟩ : phase = _ ∧ msg = _ := of_decide_eq_true hctx
    cases henc; refine followsRows_dataByte ⟨_, rfl, ?_⟩
    simp; rfl
  -- Row 10.
  | dAw1MtcQuarterFrame p n =>
    obtain ⟨rfl, rfl⟩ : phase = _ ∧ msg = _ := of_decide_eq_true hctx
    cases henc; refine followsRows_dataByte (d := p ++ n) ⟨_, rfl, ?_⟩
    simp [quarterFrame_fields]; rfl
  -- Row 13.
  | dAw1SysexIdByte d =>
    obtain ⟨rfl, rfl⟩ : phase = _ ∧ msg = _ := of_decide_eq_true hctx
    have hd : d ≠ 0#7 := of_decide_eq_true hwf
    cases henc; refine followsRows_dataByte ?_
    simp [transitionTable, hd]; rfl
  -- Row 14.
  | dAw1SysexIdZero =>
    obtain ⟨rfl, rfl⟩ : phase = _ ∧ msg = _ := of_decide_eq_true hctx
    cases henc; exact followsRows_dataByte (d := 0#7) ⟨_, rfl, rfl⟩
  -- Row 15.
  | dAw1UndefinedKind d =>
    obtain ⟨rfl, hm⟩ : phase = _ ∧ msg ∈ _ := of_decide_eq_true hctx
    simp only [undefinedKinds, List.mem_cons, List.not_mem_nil, or_false] at hm
    cases henc; refine followsRows_dataByte ?_
    rcases hm with rfl | rfl | rfl | rfl <;> (simp [transitionTable]; rfl)
  -- Rows 16 and 27.
  | dUnreachable d =>
    have hphase : (phase = .aw1 ∧ msg ∉ firstByteKinds) ∨ phase = .code5 ∨ phase = .code6 ∨ phase = .code7 :=
      of_decide_eq_true hctx
    cases henc
    rcases hphase with ⟨rfl, hm⟩ | rfl | rfl | rfl
    case inl =>
      simp only [firstByteKinds, List.mem_cons, List.not_mem_nil, or_false, not_or] at hm
      refine followsRows_dataByte ?_
      simp [transitionTable, hm]; rfl
    all_goals exact followsRows_after_aw1 nofun nofun ⟨_, rfl, rfl⟩
  -- Rows 17, 18, 19 and 23.
  | dAw2NoteOff d | dAw2NoteOn d | dAw2PolyAt d | dAw2SongPosition d =>
    obtain ⟨rfl, rfl⟩ : phase = _ ∧ msg = _ := of_decide_eq_true hctx
    cases henc; refine followsRows_after_aw1 nofun nofun ⟨_, rfl, ?_⟩
    simp; rfl
  -- Row 20.
  | dAw2ControlChange d =>
    obtain ⟨rfl, rfl, hpend⟩ : phase = _ ∧ msg = _ ∧ pend < 0x78#7 := of_decide_eq_true hctx
    cases henc; refine followsRows_after_aw1 nofun nofun ?_
    simp [transitionTable, hpend]; rfl
  -- Row 21.
  | dAw2AllSoundOff d | dAw2ResetAllControllers d | dAw2LocalControl d | dAw2AllNotesOff d | dAw2OmniOff d
  | dAw2OmniOn d | dAw2MonoMode d | dAw2PolyMode d =>
    obtain ⟨rfl, rfl, rfl⟩ : phase = _ ∧ msg = _ ∧ pend = _ := of_decide_eq_true hctx
    cases henc; refine followsRows_after_aw1 nofun nofun ⟨_, rfl, ?_⟩
    simp; rfl
  -- Row 22.
  | dAw2PitchBend d =>
    obtain ⟨rfl, rfl⟩ : phase = _ ∧ msg = _ := of_decide_eq_true hctx
    cases henc; refine followsRows_after_aw1 nofun nofun ⟨_, rfl, ?_⟩
    simp [composed_eq_u14]; rfl
  -- Row 24.
  | dAw2Unreachable d =>
    obtain ⟨rfl, hm⟩ : phase = _ ∧ msg ∉ _ := of_decide_eq_true hctx
    simp only [secondByteKinds, List.mem_cons, List.not_mem_nil, or_false, not_or] at hm
    cases henc; refine followsRows_after_aw1 nofun nofun ?_
    simp [transitionTable, hm]; rfl
  -- Rows 25 and 26.
  | dAwsxSysexIdLow d | dSxdSysexData d =>
    obtain rfl : phase = _ := of_decide_eq_true hctx
    cases henc; refine followsRows_after_aw1 nofun nofun ⟨_, rfl, ?_⟩
    simp; rfl
  -- The words of TCA are no bytes.
  | _ => cases henc

/-- Settles O10: the byte is that of the decoded instruction, which belongs to the context. -/
theorem stepFollowsTransitionTable : Obligations.StepFollowsTransitionTable := by
  intro s b
  obtain ⟨hwf, hctx⟩ := decode_belongs s.dec.context (.dec b)
  exact exec_followsRows hwf hctx (encode_decodeByte s.dec.context b)

end Sys2Proof.Machine

/-! # Realtime bytes (40_realtime.md)

A realtime byte's step changes nothing but the output of the latest step, and no later step reads that: a run depends
on the registers alone. So a realtime byte put into a stream leaves the rest of the run as it was, which settles O13
by induction on the stream. -/

namespace Sys2Proof.Machine

/-! ## The byte by itself -/

/-- Settles O11: a realtime byte is decoded without the context, and served. -/
theorem realtimeInstructions : Obligations.RealtimeInstructions :=
  fun _ _ => ⟨⟨rfl, rfl⟩, ⟨rfl, rfl⟩, ⟨rfl, rfl⟩, ⟨rfl, rfl⟩, ⟨rfl, rfl⟩, ⟨rfl, rfl⟩, ⟨rfl, rfl⟩, ⟨rfl, rfl⟩⟩

/-- The eight bytes whose top five bits are all set (R84). -/
theorem realtimeByte_cases {b : Byte} (h : field b 3 5 = 0b11111#5) :
    b = 0xF8#8 ∨ b = 0xF9#8 ∨ b = 0xFA#8 ∨ b = 0xFB#8 ∨ b = 0xFC#8 ∨ b = 0xFD#8 ∨ b = 0xFE#8 ∨ b = 0xFF#8 := by
  revert b; decide

theorem field_of_isRealtime {b : Byte} (h : isRealtime b = true) : field b 3 5 = 0b11111#5 := by
  revert b; decide

/-- What an instruction does, the step does on a byte that is read as it. -/
theorem step_present_byteInput_of_decode {b : Byte} {i : Instr} {s : State} {o : Result}
    (h : decodeByte s.dec.context b = i ∧ exec i s = o) : step (s.present (byteInput b)) = o := by
  obtain ⟨hdecode, hexec⟩ := h
  rw [byteInput, step_present_op, decode, hdecode, hexec]

/-- Settles O12: by the eight bytes, each read as its instruction. -/
theorem realtimeByteLeavesRegisters : Obligations.RealtimeByteLeavesRegisters := by
  intro s b hb
  obtain ⟨hclock, hundefF9, hstart, hcontinue, hstop, hundefFd, hsensing, hreset⟩ :=
    realtimeInstructions s.dec.context s
  rcases realtimeByte_cases hb with rfl | rfl | rfl | rfl | rfl | rfl | rfl | rfl
  · exact step_present_byteInput_of_decode hclock
  · exact step_present_byteInput_of_decode hundefF9
  · exact step_present_byteInput_of_decode hstart
  · exact step_present_byteInput_of_decode hcontinue
  · exact step_present_byteInput_of_decode hstop
  · exact step_present_byteInput_of_decode hundefFd
  · exact step_present_byteInput_of_decode hsensing
  · exact step_present_byteInput_of_decode hreset

/-! ## Runs -/

/-- A run of one input more was its step and then a run of the rest: the converse of runInputs_cons. -/
theorem runInputs_cons_next {x : Input} {xs : List Input} {s u : State} {es : List (Option MidiEvent)}
    (h : runInputs (x :: xs) s = .next (es, u)) :
    ∃ (t : State) (rest : List (Option MidiEvent)),
      step (s.present x) = .next t ∧ runInputs xs t = .next (rest, u) ∧ es = t.event :: rest := by
  obtain ⟨f, e, g, hstep⟩ := step_present_product x
  obtain ⟨_, _, _, hrun⟩ := runInputs_product xs
  obtain ⟨v, hv, -⟩ := hrun ⟨f s.dec, g s.tca, e s.dec, s.inputs⟩
  cases (runInputs_cons (hstep s) hv).symm.trans h
  exact ⟨_, _, hstep s, hv, rfl⟩

/-- A run reads the registers alone: not the latest output, and no input presented before it. -/
theorem runInputs_of_same_registers {xs : List Input} {s s' u : State} {es : List (Option MidiEvent)}
    (hdec : s'.dec = s.dec) (htca : s'.tca = s.tca) (h : runInputs xs s = .next (es, u)) :
    ∃ u' : State, runInputs xs s' = .next (es, u') ∧ u'.dec = u.dec ∧ u'.tca = u.tca := by
  obtain ⟨f, fes, g, hrun⟩ := runInputs_product xs
  obtain ⟨v, hv, hvdec, hvtca⟩ := hrun s
  obtain ⟨v', hv', hvdec', hvtca'⟩ := hrun s'
  cases hv.symm.trans h
  exact ⟨v', by rw [hv', hdec], by rw [hvdec', hvdec, hdec], by rw [hvtca', hvtca, htca]⟩

/-! ## Weaving the realtime outputs in -/

section
variable {b : Byte} (bs : List Byte) (es : List (Option MidiEvent))

theorem weaveRealtime_cons_realtime (h : isRealtime b = true) :
    weaveRealtime (b :: bs) es = realtimeEvent b :: weaveRealtime bs es := by
  simp [weaveRealtime, h]

theorem weaveRealtime_cons_other (h : isRealtime b = false) (e : Option MidiEvent) :
    weaveRealtime (b :: bs) (e :: es) = e :: weaveRealtime bs es := by
  simp [weaveRealtime, h]

end

/-- Settles O13: by induction on the stream. Past a realtime byte the run goes on from the same registers. -/
theorem realtimeInsertionIsTransparent : Obligations.RealtimeInsertionIsTransparent := by
  intro bs
  induction bs with
  | nil =>
    intro s u es hrun
    cases hrun
    exact ⟨s, rfl, rfl, rfl⟩
  | cons b bs ih =>
    intro s u es hrun
    cases hb : isRealtime b with
    | true =>
      have hstep := realtimeByteLeavesRegisters s b (field_of_isRealtime hb)
      rw [List.filter_cons_of_neg (by simp [hb])] at hrun
      obtain ⟨u', hrun', hdec', htca'⟩ :=
        runInputs_of_same_registers (s := s) (s' := { s with event := realtimeEvent b }) rfl rfl hrun
      obtain ⟨v, hv, hdec, htca⟩ := ih _ u' es hrun'
      rw [weaveRealtime_cons_realtime bs es hb]
      exact ⟨v, runInputs_cons hstep hv, hdec.trans hdec', htca.trans htca'⟩
    | false =>
      rw [List.filter_cons_of_pos (by simp [hb])] at hrun
      obtain ⟨t, rest, hstep, hrun', rfl⟩ := runInputs_cons_next hrun
      obtain ⟨v, hv, hdec, htca⟩ := ih t u rest hrun'
      rw [weaveRealtime_cons_other bs rest hb]
      exact ⟨v, runInputs_cons hstep hv, hdec, htca⟩

end Sys2Proof.Machine

/-! # Status bytes (41_status.md)

A status byte 0x80 to 0xF7 is read without the context and overwrites all four registers of DEC with values of its own
(R130, O17). So after it two runs of one stream start from the same registers of DEC, and by the product of the two
blocks (O45) they go on alike, which settles O18. -/

namespace Sys2Proof.Machine

/-! ## The instructions -/

/-- Every channel-voice instruction resynchronises to its own kind and channel, and emits nothing. -/
theorem exec_decodeChannelVoice {h : U4} (hlow : 0x8#4 ≤ h) (hhigh : h ≤ 0xE#4) (ch : U4) (s : State) :
    exec (decodeChannelVoice h ch) s = resynchronise (channelKind h) ch none s := by
  have hnibble : h = 0x8#4 ∨ h = 0x9#4 ∨ h = 0xA#4 ∨ h = 0xB#4 ∨ h = 0xC#4 ∨ h = 0xD#4 ∨ h = 0xE#4 := by
    revert h; decide
  rcases hnibble with rfl | rfl | rfl | rfl | rfl | rfl | rfl <;> rfl

/-- Settles O14: the high nibble selects the instruction, whatever the context. -/
theorem channelVoiceStatusInstructions : Obligations.ChannelVoiceStatusInstructions := by
  intro c s ch
  refine ⟨⟨?_, rfl⟩, ⟨?_, rfl⟩, ⟨?_, rfl⟩, ⟨?_, rfl⟩, ⟨?_, rfl⟩, ⟨?_, rfl⟩, ⟨?_, rfl⟩⟩ <;>
  exact decodeByte_channelVoice c (by decide) (by decide) ch

/-- Settles O15: each byte is decoded without the context, and resynchronises. -/
theorem systemCommonStartInstructions : Obligations.SystemCommonStartInstructions :=
  fun _ _ => ⟨⟨rfl, rfl⟩, ⟨rfl, rfl⟩, ⟨rfl, rfl⟩, ⟨rfl, rfl⟩⟩

/-- After 0xF4 to 0xF7 a data byte has no meaning of its own (R172). -/
theorem decodeByte_undefinedKind {m : Byte} (hm : m ∈ undefinedKinds) (p d : U7) :
    decodeByte ⟨.aw1, m, p⟩ (dataByte d) = .dAw1UndefinedKind d := by
  rw [decodeByte_aw1 _ d rfl]
  simp only [undefinedKinds, List.mem_cons, List.not_mem_nil, or_false] at hm
  rcases hm with rfl | rfl | rfl | rfl <;> rfl

/-- Settles O16: each status byte is decoded without the context, and leaves a kind whose data bytes are absorbed. -/
theorem undefinedKindInstructions : Obligations.UndefinedKindInstructions :=
  fun _ _ d p =>
    ⟨⟨rfl, rfl⟩, ⟨rfl, rfl⟩, ⟨rfl, rfl⟩, ⟨rfl, rfl⟩,
     decodeByte_undefinedKind (by decide) p d, decodeByte_undefinedKind (by decide) p d,
     decodeByte_undefinedKind (by decide) p d, decodeByte_undefinedKind (by decide) p d, rfl⟩

/-! ## The byte by itself -/

/-- The eight bytes of format S-SYS (R83). -/
theorem systemByte_cases {b : Byte} (hsys : field b 4 4 = 0xF#4) (hhigh : b ≤ 0xF7#8) :
    b = 0xF0#8 ∨ b = 0xF1#8 ∨ b = 0xF2#8 ∨ b = 0xF3#8 ∨ b = 0xF4#8 ∨ b = 0xF5#8 ∨ b = 0xF6#8 ∨ b = 0xF7#8 := by
  revert b; decide

/-- A channel-voice byte's kind is the byte without its channel (R32, R82). -/
theorem channelKind_highNibble (b : Byte) : channelKind (field b 4 4) = b &&& 0xF0#8 := by
  revert b; decide

/-- A byte of format S-CH writes its kind and its channel, and emits nothing (R82, R131 to R137). -/
theorem step_present_channelVoice {b : Byte} (hlow : 0x8#4 ≤ field b 4 4) (hhigh : field b 4 4 ≤ 0xE#4) (s : State) :
    step (s.present (byteInput b)) =
      .next { s with dec := ⟨.aw1, b &&& 0xF0#8, field b 0 4, 0#7⟩, event := none } := by
  have hsplit : field b 4 4 ++ field b 0 4 = b := BitVec.extractLsb'_append_extractLsb'
  have hdecode := decodeByte_channelVoice s.dec.context hlow hhigh (field b 0 4)
  rw [hsplit] at hdecode
  rw [step_present_byteInput_of_decode ⟨hdecode, exec_decodeChannelVoice hlow hhigh (field b 0 4) s⟩,
    channelKind_highNibble]
  rfl

/-- Settles O17: by the two formats, S-SYS instruction by instruction and S-CH at once. -/
theorem statusByteResynchronises : Obligations.StatusByteResynchronises := by
  intro s b hlow hhigh
  by_cases hsys : field b 4 4 = 0xF#4
  · obtain ⟨hF0, hF1, hF2, hF3⟩ := systemCommonStartInstructions s.dec.context s
    obtain ⟨hF4, hF5, hF6, hF7, -⟩ := undefinedKindInstructions s.dec.context s 0#7 0#7
    rcases systemByte_cases hsys hhigh with rfl | rfl | rfl | rfl | rfl | rfl | rfl | rfl
    · exact step_present_byteInput_of_decode hF0
    · exact step_present_byteInput_of_decode hF1
    · exact step_present_byteInput_of_decode hF2
    · exact step_present_byteInput_of_decode hF3
    · exact step_present_byteInput_of_decode hF4
    · exact step_present_byteInput_of_decode hF5
    · exact step_present_byteInput_of_decode hF6
    · exact step_present_byteInput_of_decode hF7
  · have hbyte : field b 7 1 = 0b1#1 ∧ b ≠ 0xF6#8 ∧ b ≠ 0xF7#8 := by
      revert b; decide
    obtain ⟨hstatus, hF6, hF7⟩ := hbyte
    obtain ⟨hnibbleLow, hnibbleHigh⟩ := field_of_channelVoice hstatus hsys
    rw [step_present_channelVoice hnibbleLow hnibbleHigh]
    simp only [hsys, hF6, hF7, if_false]

/-! ## Runs -/

/-- The step of a status byte gives the same output and the same registers of DEC from any two states (R146). -/
theorem step_status_same {b : Byte} (hb : isStatus b = true) (s s' : State) :
    ∃ t t' : State, step (s.present (byteInput b)) = .next t ∧ step (s'.present (byteInput b)) = .next t' ∧
      t.event = t'.event ∧ t.dec = t'.dec := by
  obtain ⟨hlow, hhigh⟩ : 0x80#8 ≤ b ∧ b ≤ 0xF7#8 := of_decide_eq_true hb
  exact ⟨_, _, statusByteResynchronises s b hlow hhigh, statusByteResynchronises s' b hlow hhigh, rfl, rfl⟩

/-- Settles O18: after the status byte the registers of DEC are the same, and the rest of the run reads no others. -/
theorem statusByteForgetsThePast : Obligations.StatusByteForgetsThePast := by
  intro b bs s s' u es hb hrun
  obtain ⟨t, t', hstep, hstep', hevent, hdec⟩ := step_status_same hb s s'
  obtain ⟨v, rest, hstepv, hrest, rfl⟩ := runInputs_cons_next hrun
  cases hstepv.symm.trans hstep
  obtain ⟨u', hrest', hu'⟩ := blocksShareNothing.1 (bs.map byteInput) t t' u rest hdec hrest
  exact ⟨u', hevent ▸ runInputs_cons hstep' hrest', hu'⟩

end Sys2Proof.Machine

/-! # Data bytes in IDLE and AW1 (42_data_first.md)

In AW1 the kind in MSG alone selects what a data byte does (R160), so each row is the decoder's reading of its kind and
the operation that kind shares with others: report an event, hold the byte, or absorb it. Running status (O35) is the
first of these, along a stream, by induction. That no byte leads into IDLE (O20) is read off the rows of R105, which
every step follows (O10). -/

namespace Sys2Proof.Machine

/-! ## The instructions -/

/-- Settles O21: the kind selects the instruction, which reports its event. -/
theorem oneDataByteInstructions : Obligations.OneDataByteInstructions :=
  fun _ d _ => ⟨⟨decodeByte_aw1 _ d rfl, rfl⟩, ⟨decodeByte_aw1 _ d rfl, rfl⟩, ⟨decodeByte_aw1 _ d rfl, rfl⟩⟩

/-- Settles O22: after 0xF1 the decoder cuts the byte into the piece and the nibble it was put together from. -/
theorem quarterFrameInstruction : Obligations.QuarterFrameInstruction := by
  intro p piece n s
  have hpiece : field (piece ++ n) 4 3 = piece := BitVec.extractLsb'_append_eq_left
  have hnibble : field (piece ++ n) 0 4 = n := BitVec.extractLsb'_append_eq_right
  have hdecode : decodeByte ⟨.aw1, 0xF1#8, p⟩ (dataByte (piece ++ n)) =
      .dAw1MtcQuarterFrame (field (piece ++ n) 4 3) (field (piece ++ n) 0 4) := decodeByte_aw1 _ _ rfl
  rw [hpiece, hnibble] at hdecode
  exact ⟨hdecode, rfl⟩

/-- Settles O23: the kind selects the instruction, which holds the byte. -/
theorem firstDataByteInstructions : Obligations.FirstDataByteInstructions :=
  fun _ d _ => ⟨⟨decodeByte_aw1 _ d rfl, rfl⟩, ⟨decodeByte_aw1 _ d rfl, rfl⟩, ⟨decodeByte_aw1 _ d rfl, rfl⟩⟩

/-- Settles O24: the kind selects the instruction, which holds the byte. -/
theorem firstDataByteOfRecoveredKinds : Obligations.FirstDataByteOfRecoveredKinds :=
  fun _ d _ => ⟨⟨decodeByte_aw1 _ d rfl, rfl⟩, ⟨decodeByte_aw1 _ d rfl, rfl⟩, ⟨decodeByte_aw1 _ d rfl, rfl⟩⟩

/-! ## Contexts no stream reaches -/

/-- A MSG that is no kind selects no row of AW1 (R173). -/
theorem decodeFirstData_of_not_kind {m : Byte} (hm : m ∉ firstByteKinds) (d : U7) :
    decodeFirstData m d = .dUnreachable d := by
  simp only [firstByteKinds, List.mem_cons, List.not_mem_nil, or_false, not_or] at hm
  simp [decodeFirstData, hm]

/-- A MSG that takes no second byte selects no row of AW2 (R197). -/
theorem decodeSecondData_of_not_kind {m : Byte} (hm : m ∉ secondByteKinds) (p d : U7) :
    decodeSecondData m p d = .dAw2Unreachable d := by
  simp only [secondByteKinds, List.mem_cons, List.not_mem_nil, or_false, not_or] at hm
  simp [decodeSecondData, hm]

/-- Settles O25: no row of AW1 or AW2 is selected, the codes 5 to 7 have none, and both instructions absorb. -/
theorem unreachableContextsAbsorb : Obligations.UnreachableContextsAbsorb := by
  refine ⟨fun m p d hm => ?aw1, fun m p d => ?codes, fun m p d hm => ?aw2, fun d s => ⟨rfl, rfl⟩⟩
  case aw1 => rw [decodeByte_aw1 _ d rfl, decodeFirstData_of_not_kind hm]
  case codes => exact ⟨decodeByte_dataByte _ d, decodeByte_dataByte _ d, decodeByte_dataByte _ d⟩
  case aw2 => rw [decodeByte_aw2 _ d rfl, decodeSecondData_of_not_kind hm]

/-! ## IDLE -/

/-- A row of R105 that applies keeps the registers, or is a status byte's, or stands outside IDLE and leads to a phase
outside IDLE. -/
theorem transitionRow_cases {row : TransitionRow} (hrow : row ∈ transitionTable) {b : Byte} {r : Dec}
    (happlies : row.applies b r = true) :
    row.next b r = r ∨ isStatus b = true ∨ (r.phase ≠ .idle ∧ (row.next b r).phase ≠ .idle) := by
  revert row
  simp only [transitionTable, List.forall_mem_cons, true_or, implies_true, true_and]
  refine ⟨?_, ?_, ?_, ?_, ?data⟩
  -- The data-byte rows that write a register: 12 to 14, 17 to 23 and 25, each of which asks for AW1, AW2 or AWSX.
  case data => simp +contextual
  -- The status-byte rows, 3 to 6.
  all_goals
    intro hb
    exact .inr (.inl (by revert b; decide))

/-- Settles O20: the status bytes lead to AW1 (O17), and for the others the rows of R105 are read (O10). -/
theorem idleAbsorbsUntilStatus : Obligations.IdleAbsorbsUntilStatus := by
  refine ⟨fun m p d => decodeByte_dataByte _ d, fun d s => rfl,
    fun s b _ hb => realtimeByteLeavesRegisters s b (field_of_isRealtime hb), fun s t b hstep => ?_⟩
  cases hb : isStatus b with
  | true =>
    obtain ⟨hlow, hhigh⟩ : 0x80#8 ≤ b ∧ b ≤ 0xF7#8 := of_decide_eq_true hb
    cases (statusByteResynchronises s b hlow hhigh).symm.trans hstep
    simp
  | false =>
    obtain ⟨row, hfind, hrow⟩ := stepFollowsTransitionTable s b
    cases hrow.symm.trans hstep
    have happlies := List.find?_some (p := fun row : TransitionRow => row.applies b s.dec) hfind
    rcases transitionRow_cases (List.mem_of_find?_eq_some hfind) happlies with hsame | hstatus | ⟨hphase, hnext⟩
    · simp [hsame]
    · simp [hb] at hstatus
    · simp [hphase, hnext]

/-! ## Running status -/

/-- A data byte of a one-data-byte kind: the event of the kind, and no register written (R162 to R165). -/
theorem exec_decodeFirstData_oneByteKind {m : Byte} (hm : m ∈ [0xC0#8, 0xD0#8, 0xF1#8, 0xF3#8]) (d : U7) (s : State) :
    exec (decodeFirstData m d) s = .next { s with event := oneByteEvent m s.dec.ch d } := by
  simp only [List.mem_cons, List.not_mem_nil, or_false] at hm
  rcases hm with rfl | rfl | rfl | rfl <;> rfl

/-- Settles O35: by induction on the data bytes. Each leaves the registers, so the next is of the same kind. -/
theorem runningStatusOneDataByte : Obligations.RunningStatusOneDataByte := by
  intro s ds hphase hmsg
  induction ds generalizing s with
  | nil => exact ⟨s, rfl, rfl, rfl, rfl⟩
  | cons d ds ih =>
    have hstep := step_present_byteInput_of_decode
      ⟨decodeByte_aw1 s.dec.context d hphase, exec_decodeFirstData_oneByteKind hmsg d s⟩
    obtain ⟨t, hrun, hregs⟩ := ih { s with event := oneByteEvent s.dec.msg s.dec.ch d } hphase hmsg
    exact ⟨t, runInputs_cons hstep hrun, hregs⟩

end Sys2Proof.Machine

/-! # Data bytes in AW2 (43_data_second.md)

In AW2 the kind in MSG, and after 0xB0 the control number in PEND, selects the instruction (R180, R184), and each
instruction completes its message: it emits the event of the kind and leads back to AW1. So a pair of data bytes of a
two-data-byte kind gives one event and the registers to read the next pair with, and running status (O36) is an
induction on the pairs. -/

namespace Sys2Proof.Machine

/-! ## The instructions -/

/-- Settles O26: the kind selects the instruction, which completes the message. -/
theorem noteOffInstruction : Obligations.NoteOffInstruction :=
  fun _ d _ => ⟨decodeByte_aw2 _ d rfl, rfl⟩

/-- Settles O30: the kind selects the instruction, which completes the message without looking at the velocity. -/
theorem noteOnInstruction : Obligations.NoteOnInstruction :=
  fun _ d _ => ⟨decodeByte_aw2 _ d rfl, rfl⟩

/-- Two bit fields side by side are the spec's shift and or (R9). -/
theorem u14_eq_shiftLeft_or (msb lsb : U7) : u14 msb lsb = (msb.setWidth 14 <<< 7) ||| lsb.setWidth 14 :=
  (BitVec.setWidth_eq _).symm.trans BitVec.setWidth_append_eq_shiftLeft_setWidth_or

/-- Settles O27: the kind selects the instruction; the beats are the second byte above the first. -/
theorem secondDataByteOfRecoveredKinds : Obligations.SecondDataByteOfRecoveredKinds := by
  intro p d s
  refine ⟨⟨decodeByte_aw2 _ d rfl, rfl⟩, decodeByte_aw2 _ d rfl, ?_⟩
  rw [← u14_eq_shiftLeft_or]
  rfl

/-- A control number below the channel-mode numbers is a controller (R185). -/
theorem decodeControl_of_lt {p : U7} (hp : p < 0x78#7) (d : U7) : decodeControl p d = .dAw2ControlChange d := by
  have hfield : field p 3 4 ≠ 0b1111#4 := by revert p; decide
  exact if_neg hfield

/-- Settles O28: the control number held in PEND selects the instruction. -/
theorem controllerOrAllNotesOff : Obligations.ControllerOrAllNotesOff := by
  refine ⟨fun p d hp => ?_, fun d => decodeByte_aw2 _ d rfl, fun d s => ⟨rfl, rfl⟩⟩
  have hlt : p < 0x78#7 := by bv_omega
  exact (decodeByte_aw2 _ d rfl).trans (decodeControl_of_lt hlt d)

/-- Settles O29: the control number selects the instruction; LocalControl tests its value byte for zero. -/
theorem channelModeInstructions : Obligations.ChannelModeInstructions := by
  intro d s
  refine ⟨⟨?_, rfl⟩, ⟨?_, rfl⟩, ⟨?_, ?localOn⟩, ⟨?_, rfl⟩, ⟨?_, rfl⟩, ⟨?_, rfl⟩, ⟨?_, rfl⟩⟩
  case localOn => exact congrArg (completeMessage · s) (modeEvent_localControl s.dec.ch d).symm
  all_goals exact decodeByte_aw2 _ d rfl

/-! ## Running status -/

/-- The first data byte of a two-data-byte kind is held (R166 to R171). -/
theorem exec_decodeFirstData_twoByteKind {m : Byte} (hm : m ∈ secondByteKinds) (d : U7) (s : State) :
    exec (decodeFirstData m d) s = holdFirst d s := by
  simp only [secondByteKinds, List.mem_cons, List.not_mem_nil, or_false] at hm
  rcases hm with rfl | rfl | rfl | rfl | rfl | rfl <;> rfl

/-- After 0xB0 the second data byte completes a plain controller or a mode message, by the number held (R184). -/
theorem exec_decodeControl (d : U7) (s : State) :
    exec (decodeControl s.dec.pend d) s =
      .next { s with dec := { s.dec with phase := .aw1 }, event := twoByteEvent 0xB0#8 s.dec.ch s.dec.pend d } := by
  obtain ⟨⟨phase, msg, ch, pend⟩, tca, event, inputs⟩ := s
  rcases decodeControl_cases pend d with ⟨hp, h⟩ | ⟨rfl, h⟩ | ⟨rfl, h⟩ | ⟨rfl, h⟩ | ⟨rfl, h⟩ | ⟨rfl, h⟩ |
    ⟨rfl, h⟩ | ⟨rfl, h⟩ | ⟨rfl, h⟩
  case inl => simp [h, twoByteEvent, hp]; rfl
  all_goals simp [h, twoByteEvent]; rfl

/-- The second data byte of a two-data-byte kind completes the message: the event of the kind, and PHASE back to AW1
(R181 to R195). -/
theorem exec_decodeSecondData {m : Byte} (hm : m ∈ secondByteKinds) (d : U7) (s : State) :
    exec (decodeSecondData m s.dec.pend d) s =
      .next { s with dec := { s.dec with phase := .aw1 }, event := twoByteEvent m s.dec.ch s.dec.pend d } := by
  rcases decodeSecondData_cases m s.dec.pend d with
    ⟨rfl, h⟩ | ⟨rfl, h⟩ | ⟨rfl, h⟩ | ⟨rfl, h⟩ | ⟨rfl, h⟩ | ⟨rfl, h⟩ | ⟨hnot, -⟩
  case inr.inr.inr.inl => exact (congrArg (exec · s) h).trans (exec_decodeControl d s)
  case inr.inr.inr.inr.inr.inr => exact absurd hm hnot
  all_goals simp [h, twoByteEvent, composed_eq_u14]; rfl

/-- The step on a first data byte holds it. -/
theorem step_present_firstDataByte {s : State} (hphase : s.dec.phase = .aw1) (hmsg : s.dec.msg ∈ secondByteKinds)
    (d : U7) : step (s.present (byteInput (dataByte d))) = holdFirst d s :=
  step_present_byteInput_of_decode
    ⟨decodeByte_aw1 s.dec.context d hphase, exec_decodeFirstData_twoByteKind hmsg d s⟩

/-- The step on a second data byte completes the message. -/
theorem step_present_secondDataByte {s : State} (hphase : s.dec.phase = .aw2) (hmsg : s.dec.msg ∈ secondByteKinds)
    (d : U7) : step (s.present (byteInput (dataByte d))) = .next { s with
      dec := { s.dec with phase := .aw1 }, event := twoByteEvent s.dec.msg s.dec.ch s.dec.pend d } :=
  step_present_byteInput_of_decode ⟨decodeByte_aw2 s.dec.context d hphase, exec_decodeSecondData hmsg d s⟩

/-- A pair of data bytes of a two-data-byte kind: no event, then the event of the kind; the rest of the run starts in
AW1 again, with the first byte in PEND. -/
theorem runBytes_dataByte_pair {s u : State} {bs : List Byte} {es : List (Option MidiEvent)} {d₁ d₂ : U7}
    (hphase : s.dec.phase = .aw1) (hmsg : s.dec.msg ∈ secondByteKinds)
    (hrun : runBytes bs { s with
      dec := { s.dec with pend := d₁ }, event := twoByteEvent s.dec.msg s.dec.ch d₁ d₂ } = .next (es, u)) :
    runBytes (dataByte d₁ :: dataByte d₂ :: bs) s =
      .next (none :: twoByteEvent s.dec.msg s.dec.ch d₁ d₂ :: es, u) := by
  have hfirst := step_present_firstDataByte hphase hmsg d₁
  have hsecond := step_present_secondDataByte
    (s := { s with dec := { s.dec with phase := .aw2, pend := d₁ }, event := none }) rfl hmsg d₂
  rw [← hphase] at hsecond
  exact runInputs_cons hfirst (runInputs_cons hsecond hrun)

/-- The first byte of the last pair, where p is what PEND holds before the first. -/
theorem getLast?_map_fst_getD_cons (q : U7 × U7) (ps : List (U7 × U7)) (p : U7) :
    ((q :: ps).getLast?.map Prod.fst).getD p = (ps.getLast?.map Prod.fst).getD q.1 := by
  rw [List.getLast?_cons, Option.map_some, Option.getD_some, Option.getD_map]

/-- Settles O36: by induction on the pairs. Each leaves PHASE, MSG and CH, so the next is of the same kind. -/
theorem runningStatusTwoDataBytes : Obligations.RunningStatusTwoDataBytes := by
  intro s ps hphase hmsg
  induction ps generalizing s with
  | nil => exact ⟨s, rfl, rfl, rfl, rfl⟩
  | cons q ps ih =>
    obtain ⟨t, hrun, hdec, hrest⟩ := ih { s with
      dec := { s.dec with pend := q.1 }, event := twoByteEvent s.dec.msg s.dec.ch q.1 q.2 } hphase hmsg
    refine ⟨t, runBytes_dataByte_pair hphase hmsg hrun, ?_, hrest⟩
    rw [hdec, getLast?_map_fst_getD_cons]

end Sys2Proof.Machine

/-! # System Exclusive (44_sysex.md)

PHASE carries a block from its ID to its end: the ID leads to SXD, where every data byte is payload and writes no
register (R224), so a block's length is an induction on the payload (O34). Only a status byte ends the block, and it
ends it as R130 says of any message in progress (O17), which is what an interrupted block comes to (O19). -/

namespace Sys2Proof.Machine

/-! ## The instructions -/

/-- After 0xF0 a nonzero byte is the whole ID (R221). -/
theorem decodeFirstData_sysexIdByte {d : U7} (hd : d ≠ 0#7) : decodeFirstData 0xF0#8 d = .dAw1SysexIdByte d :=
  if_neg hd

/-- Settles O32: the kind and a nonzero ID, or the phase alone, select the instruction. -/
theorem sysexIdAndDataInstructions : Obligations.SysexIdAndDataInstructions :=
  ⟨fun _ d hd => (decodeByte_aw1 _ d rfl).trans (decodeFirstData_sysexIdByte hd),
   fun _ _ d => decodeByte_dataByte _ d, fun _ _ => ⟨rfl, rfl⟩⟩

/-- Settles O33: zero selects the two-byte ID, whose parts side by side are the spec's shift and or. -/
theorem sysexTwoByteIdInstructions : Obligations.SysexTwoByteIdInstructions := by
  intro m p d s
  refine ⟨⟨decodeByte_aw1 _ 0#7 rfl, rfl⟩, decodeByte_dataByte _ d, ?_⟩
  rw [← u14_eq_shiftLeft_or]
  rfl

/-! ## A block interrupted -/

/-- Settles O19: the rule of every status byte (O17), of which only 0xF7 emits a SystemExclusiveEnd. That rule reads
no register, so where in the block DEC stands does not matter. -/
theorem interruptedBlockIsAbandoned : Obligations.InterruptedBlockIsAbandoned := by
  intro s b _ hlow hhigh
  obtain ⟨hstatus, hne⟩ : b ≤ 0xF7#8 ∧ b ≠ 0xF7#8 := by bv_omega
  refine ⟨_, statusByteResynchronises s b hlow hstatus, ?event, rfl, rfl, rfl, rfl, rfl, rfl⟩
  case event => simp only [if_neg hne]

/-! ## A whole block -/

/-- The step on the nonzero ID byte reports it and opens the block. -/
theorem step_present_sysexIdByte {s : State} (hphase : s.dec.phase = .aw1) (hmsg : s.dec.msg = 0xF0#8) {d : U7}
    (hd : d ≠ 0#7) : step (s.present (byteInput (dataByte d))) = .next { s with
      dec := { s.dec with phase := .sxd }, event := some (.systemExclusiveStartByte d) } := by
  have hdecode : decodeByte s.dec.context (dataByte d) = .dAw1SysexIdByte d := by
    rw [decodeByte_aw1 _ d hphase, Dec.context_msg, hmsg, decodeFirstData_sysexIdByte hd]
  exact step_present_byteInput_of_decode ⟨hdecode, rfl⟩

/-- The step on a payload byte reports it and writes no register. -/
theorem step_present_sysexData {s : State} (hphase : s.dec.phase = .sxd) (d : U7) :
    step (s.present (byteInput (dataByte d))) = .next { s with event := some (.systemExclusiveData d) } := by
  have hdecode : decodeByte s.dec.context (dataByte d) = .dSxdSysexData d := by
    rw [decodeByte_dataByte, decodeData, Dec.context_phase, hphase]
  exact step_present_byteInput_of_decode ⟨hdecode, rfl⟩

/-- The rest of a block from within its data: one Data for each payload byte, then the End. -/
theorem runBytes_payload_then_end {s : State} (hphase : s.dec.phase = .sxd) (ds : List U7) :
    runBytes (ds.map dataByte ++ [0xF7#8]) s =
      .next (ds.map (fun d => some (.systemExclusiveData d)) ++ [some .systemExclusiveEnd],
        { s with dec := ⟨.aw1, 0xF7#8, 0#4, 0#7⟩, event := some .systemExclusiveEnd }) := by
  induction ds generalizing s with
  | nil => exact runInputs_cons (statusByteResynchronises s 0xF7#8 (by decide) (by decide)) rfl
  | cons d ds ih =>
    exact runInputs_cons (step_present_sysexData hphase d) (ih (s := { s with event := _ }) hphase)

/-- Settles O34: 0xF0 leads to AW1 of its own kind (O17), the ID to SXD, and from there the payload is any length. -/
theorem sysexBlockOfAnyLength : Obligations.SysexBlockOfAnyLength := by
  intro s id ds hid
  have hstart := statusByteResynchronises s 0xF0#8 (by decide) (by decide)
  have hopen := step_present_sysexIdByte
    (s := { s with dec := ⟨.aw1, 0xF0#8, 0#4, 0#7⟩, event := none }) rfl rfl hid
  exact runInputs_cons hstart (runInputs_cons hopen (runBytes_payload_then_end rfl ds))

end Sys2Proof.Machine

/-! # The timecode accumulator (45_timecode.md)

An UPDATE is a nibble write, and a nibble write sets one entry of the registers' list of nibbles (nibblesOf_nibWrite).
So what a list of UPDATEs leaves in each entry is read off its last UPDATE of that piece, by induction from the right
end, and the eight entries are the registers: the full-cycle law (O43). A quarter frame of the reference composition is
an UPDATE (O47), so the quarter frames of a timecode are a full cycle of its own nibbles (O48). -/

namespace Sys2Proof.Machine

/-! ## The operations and their formulas -/

/-- The word of an UPDATE, with tc_op and tc_piece written as one code of five bits (R99, R100). -/
theorem decodeTc_updateCode (p : U3) (n : U4) (ld : LoadPorts) :
    decodeTc ((0b01#2 ++ p) ++ n) ld = decodePiece p n := by
  have hword : (0b01#2 ++ p) ++ n = 0b01#2 ++ (p ++ n) := by revert p n; decide
  exact (congrArg (decodeTc · ld) hword).trans (decodeTc_update p n ld)

section Formulas
variable (v : U4)

theorem setLow5_eq_and_or (r : BitVec 5) : setLow5 r v = (r &&& 0b10000#5) ||| v.setWidth 5 := by
  revert r v; decide

theorem setLow6_eq_and_or (r : BitVec 6) : setLow6 r v = (r &&& 0b110000#6) ||| v.setWidth 6 := by
  revert r v; decide

theorem setHigh5_eq_shift_or (r : BitVec 5) :
    setHigh5 r v = ((v &&& 1#4).setWidth 5 <<< 4) ||| (r &&& 0b01111#5) := by
  revert r v; decide

theorem setHigh6_eq_shift_or (r : BitVec 6) :
    setHigh6 r v = ((v &&& 3#4).setWidth 6 <<< 4) ||| (r &&& 0b001111#6) := by
  revert r v; decide

/-- The rate selector in piece 7's nibble, with R249's shift and mask. -/
theorem rateField_eq_shift_and : field v 1 2 = ((v >>> 1) &&& 3#4).setWidth 2 := by
  revert v; decide

theorem setLow5_eq_masked (r : BitVec 5) : setLow5 r v = masked r 0b01111#5 0 v := by
  revert r v; decide

theorem setHigh5_eq_masked (r : BitVec 5) : setHigh5 r v = masked r 0b10000#5 4 v := by
  revert r v; decide

theorem setLow6_eq_masked (r : BitVec 6) : setLow6 r v = masked r 0b001111#6 0 v := by
  revert r v; decide

theorem setHigh6_eq_masked (r : BitVec 6) : setHigh6 r v = masked r 0b110000#6 4 v := by
  revert r v; decide

/-- RATE is replaced as a whole, so its old value does not show (R249). -/
theorem rateField_eq_masked (r : BitVec 2) : field v 1 2 = masked r 0b11#2 0 (v >>> 1) := by
  revert r v; decide

end Formulas

/-- Settles O37: each word is that of its piece, whose nibble write is the spec's formula. -/
theorem lowNibbleOperations : Obligations.LowNibbleOperations := by
  intro n ld s
  simp only [← setLow5_eq_and_or, ← setLow6_eq_and_or]
  exact ⟨⟨decodeTc_updateCode 0#3 n ld, rfl⟩, ⟨decodeTc_updateCode 2#3 n ld, rfl⟩,
    ⟨decodeTc_updateCode 4#3 n ld, rfl⟩, ⟨decodeTc_updateCode 6#3 n ld, rfl⟩⟩

/-- Settles O38: as O37, for the odd pieces; the last writes RATE too. -/
theorem highBitOperations : Obligations.HighBitOperations := by
  intro n ld s
  simp only [← setHigh5_eq_shift_or, ← setHigh6_eq_shift_or, ← rateField_eq_shift_and]
  exact ⟨⟨decodeTc_updateCode 1#3 n ld, rfl⟩, ⟨decodeTc_updateCode 3#3 n ld, rfl⟩,
    ⟨decodeTc_updateCode 5#3 n ld, rfl⟩, ⟨decodeTc_updateCode 7#3 n ld, rfl⟩⟩

/-- Settles O41: each replacement of a part of a field is the masked write of that part. -/
theorem maskingDiscipline : Obligations.MaskingDiscipline := by
  intro n t
  simp only [← setLow5_eq_masked, ← setHigh5_eq_masked, ← setLow6_eq_masked, ← setHigh6_eq_masked,
    ← rateField_eq_masked]
  exact ⟨rfl, rfl, rfl, rfl, rfl, rfl, rfl, rfl⟩

/-- Settles O40: the nibble write of an index from 8 on is the identity, so the UPDATE leaves TCA as it was. -/
theorem pieceOutOfRangeIsIgnored : Obligations.PieceOutOfRangeIsIgnored := by
  intro a n s ha
  obtain ⟨k, rfl⟩ := Nat.exists_eq_add_of_le' ha
  exact ⟨nibWrite_above_seven k n s.tca, rfl⟩

/-! ## Lists of UPDATEs -/

theorem piece_cases (p : U3) :
    p = 0#3 ∨ p = 1#3 ∨ p = 2#3 ∨ p = 3#3 ∨ p = 4#3 ∨ p = 5#3 ∨ p = 6#3 ∨ p = 7#3 := by
  revert p; decide

theorem applyUpdates_append_singleton (us : List (U3 × U4)) (u : U3 × U4) (t : Tca) :
    applyUpdates (us ++ [u]) t = nibWrite u.1.toNat u.2 (applyUpdates us t) :=
  List.foldl_append

theorem lastNibble_append_singleton (p : U3) (us : List (U3 × U4)) (u : U3 × U4) :
    lastNibble p (us ++ [u]) = if u.1 = p then some u.2 else lastNibble p us :=
  List.foldl_append

/-- The entry of a piece after UPDATEs that name it: the bits its last UPDATE writes. By induction from the right: the
last UPDATE sets the entry if it is of this piece, and keeps it if not (R255, R256). -/
theorem nibblesOf_applyUpdates_getElem? {p : U3} {us : List (U3 × U4)} {n : U4} (t : Tca)
    (h : lastNibble p us = some n) :
    (nibblesOf (applyUpdates us t))[p.toNat]? = some (heldBits p.toNat n) := by
  induction us using List.reverseRecOn with
  | nil => cases h
  | append_singleton us u ih =>
    rw [lastNibble_append_singleton] at h
    rw [applyUpdates_append_singleton, nibblesOf_nibWrite]
    split_ifs at h with hp
    · obtain rfl := Option.some.inj h
      rw [hp, List.getElem?_set_self (show p.toNat < 8 from p.isLt)]
    · rw [List.getElem?_set_ne (fun heq => hp (BitVec.eq_of_toNat_eq heq)), ih h]

/-- The bits a timecode takes from the nibble of an odd piece are among those the piece writes (R243 to R249). -/
theorem field_heldBits (n : U4) :
    field (heldBits 1 n) 0 1 = field n 0 1 ∧ field (heldBits 3 n) 0 2 = field n 0 2 ∧
    field (heldBits 5 n) 0 2 = field n 0 2 ∧ field (heldBits 7 n) 0 1 = field n 0 1 ∧
    field (heldBits 7 n) 1 2 = field n 1 2 := by
  revert n; decide

/-- The bits that a piece ignores do not show in the timecode. -/
theorem timecodeOf_heldBits (n0 n1 n2 n3 n4 n5 n6 n7 : U4) :
    timecodeOf [heldBits 0 n0, heldBits 1 n1, heldBits 2 n2, heldBits 3 n3, heldBits 4 n4, heldBits 5 n5,
      heldBits 6 n6, heldBits 7 n7] = timecodeOf [n0, n1, n2, n3, n4, n5, n6, n7] := by
  simp only [timecodeOf, field_heldBits]
  rfl

/-- Registers whose entries hold what each piece writes of its nibble are the timecode those nibbles send. -/
theorem eq_timecodeOf_of_nibblesOf {t : Tca} {n : U3 → U4}
    (h : ∀ p : U3, (nibblesOf t)[p.toNat]? = some (heldBits p.toNat (n p))) :
    t = timecodeOf [n 0#3, n 1#3, n 2#3, n 3#3, n 4#3, n 5#3, n 6#3, n 7#3] := by
  rw [← timecodeOf_heldBits, ← timecodeOf_nibblesOf t]
  refine congrArg timecodeOf (List.ext_getElem? fun i => ?_)
  match i with
  | 0 => exact h 0#3
  | 1 => exact h 1#3
  | 2 => exact h 2#3
  | 3 => exact h 3#3
  | 4 => exact h 4#3
  | 5 => exact h 5#3
  | 6 => exact h 6#3
  | 7 => exact h 7#3
  | _ + 8 => rfl

/-- Settles O43: every entry holds what the last UPDATE of its piece wrote, and the entries are the registers. -/
theorem fullCycleLaw : Obligations.FullCycleLaw :=
  fun _ t _ hlast => eq_timecodeOf_of_nibblesOf fun p => nibblesOf_applyUpdates_getElem? t (hlast p)

/-! ## The reference composition -/

theorem exec_decodePiece (p : U3) (n : U4) (s : State) : exec (decodePiece p n) s = updateTca p.toNat n s := by
  rcases piece_cases p with rfl | rfl | rfl | rfl | rfl | rfl | rfl | rfl <;> rfl

/-- The step on an UPDATE presented to TCA is the nibble write of its piece (R241). -/
theorem step_present_updateInput (p : U3) (n : U4) (s : State) :
    step (s.present (updateInput p n)) = updateTca p.toNat n s := by
  rw [updateInput, step_present_op, decode, decodeTc_update, exec_decodePiece]

/-- The byte 0xF1 gives no event, so TCA is not told of it; DEC is in AW1 and awaits quarter frames. -/
theorem composeByte_quarterFrameStatus (s : State) :
    composeByte 0xF1#8 s = .next (none, { s with dec := ⟨.aw1, 0xF1#8, 0#4, 0#7⟩, event := none }) := by
  rw [composeByte, statusByteResynchronises s 0xF1#8 (by decide) (by decide)]
  rfl

/-- A step of DEC that gives a quarter frame is followed by its UPDATE (R75, R259). -/
theorem composeByte_of_quarterFrame {b : Byte} {s t : State} {p : U3} {n : U4}
    (h : step (s.present (byteInput b)) = .next t) (hevent : t.event = some (.mtcQuarterFrame p n)) :
    composeByte b s =
      .next (some (.mtcQuarterFrame p n), { t with tca := nibWrite p.toNat n t.tca, event := none }) := by
  simp only [composeByte, h, andThen_next, hevent, step_present_updateInput]
  rfl

/-- A data byte of a quarter frame: its event, and the nibble write the host passes on (R259). -/
theorem composeByte_quarterFrameData {s : State} (hphase : s.dec.phase = .aw1) (hmsg : s.dec.msg = 0xF1#8) (d : U7) :
    composeByte (dataByte d) s = .next (some (.mtcQuarterFrame (field d 4 3) (field d 0 4)),
      { s with tca := nibWrite (field d 4 3).toNat (field d 0 4) s.tca, event := none }) := by
  have hdecode : decodeByte s.dec.context (dataByte d) = .dAw1MtcQuarterFrame (field d 4 3) (field d 0 4) := by
    rw [decodeByte_aw1 _ d hphase, Dec.context_msg, hmsg]; rfl
  exact composeByte_of_quarterFrame (t := { s with event := some _ })
    (step_present_byteInput_of_decode ⟨hdecode, rfl⟩) rfl

/-- A composition of one byte more is its step and then the composition of the rest. -/
theorem composeBytes_cons {b : Byte} {bs : List Byte} {s t u : State} {e : Option MidiEvent}
    {es : List (Option MidiEvent)} (h : composeByte b s = .next (e, t)) (hr : composeBytes bs t = .next (es, u)) :
    composeBytes (b :: bs) s = .next (e :: es, u) := by
  simp [composeBytes, h, hr]

/-- Settles O47: the status byte writes DEC, and the data byte TCA. -/
theorem quarterFrameMessageWritesNibble : Obligations.QuarterFrameMessageWritesNibble := fun s d =>
  ⟨_, composeBytes_cons (composeByte_quarterFrameStatus s)
      (composeBytes_cons (composeByte_quarterFrameData rfl rfl d) rfl), rfl, rfl⟩

/-- Quarter frames after 0xF1 are UPDATEs: TCA is as after the UPDATEs, and DEC reads on (R259). -/
theorem composeBytes_quarterFrames {s : State} (hphase : s.dec.phase = .aw1) (hmsg : s.dec.msg = 0xF1#8)
    (us : List (U3 × U4)) :
    ∃ (es : List (Option MidiEvent)) (t : State),
      composeBytes (us.map fun u => dataByte (u.1 ++ u.2)) s = .next (es, t) ∧
      t.tca = applyUpdates us s.tca ∧ t.dec = s.dec := by
  induction us generalizing s with
  | nil => exact ⟨[], s, rfl, rfl, rfl⟩
  | cons u us ih =>
    obtain ⟨p, n⟩ := u
    have hbyte := composeByte_quarterFrameData hphase hmsg (p ++ n)
    have hpiece : field (p ++ n) 4 3 = p := BitVec.extractLsb'_append_eq_left
    have hnibble : field (p ++ n) 0 4 = n := BitVec.extractLsb'_append_eq_right
    rw [hpiece, hnibble] at hbyte
    obtain ⟨es, t, hrun, htca, hdec⟩ :=
      ih (s := { s with tca := nibWrite p.toNat n s.tca, event := none }) hphase hmsg
    exact ⟨_, t, composeBytes_cons hbyte hrun, htca, hdec⟩

/-- Each piece once, in order: its last nibble is its entry of the list. -/
theorem lastNibble_zip_nibblesOf (v : Tca) (p : U3) :
    lastNibble p ([0#3, 1#3, 2#3, 3#3, 4#3, 5#3, 6#3, 7#3].zip (nibblesOf v)) =
      some ((nibblesOf v)[p.toNat]'p.isLt) := by
  rcases piece_cases p with rfl | rfl | rfl | rfl | rfl | rfl | rfl | rfl <;> rfl

/-- Settles O48: the eight quarter frames are a full cycle of the timecode's own nibbles (O43). -/
theorem quarterFramesTransferTimecode : Obligations.QuarterFramesTransferTimecode := by
  intro s v
  obtain ⟨es, t, hrun, htca, hdec⟩ := composeBytes_quarterFrames
    (s := { s with dec := ⟨.aw1, 0xF1#8, 0#4, 0#7⟩, event := none }) rfl rfl
    ([0#3, 1#3, 2#3, 3#3, 4#3, 5#3, 6#3, 7#3].zip (nibblesOf v))
  have hcycle := fullCycleLaw _ s.tca _ (lastNibble_zip_nibblesOf v)
  exact ⟨_, t, composeBytes_cons (composeByte_quarterFrameStatus s) hrun,
    htca.trans (hcycle.trans (timecodeOf_nibblesOf v)), hdec⟩

end Sys2Proof.Machine

/-! # No exceptions (60_exceptions.md)

A step finds nothing presented and holds, or takes one input; the step on an input is a product of a function of DEC
and a function of TCA, and so answers a next state. This settles O9. -/

namespace Sys2Proof.Machine

/-- Whatever input is presented, the step that takes it answers a next state (R280, R298). -/
theorem step_present_next (s : State) (x : Input) : ∃ t : State, step (s.present x) = .next t := by
  obtain ⟨f, e, g, hstep⟩ := step_present_product x
  exact ⟨_, hstep s⟩

/-- Settles O9: by what is presented. With nothing presented the step holds. -/
theorem everyStepAnswersNext : Obligations.EveryStepAnswersNext := by
  intro s
  cases hinputs : s.inputs with
  | nil => exact ⟨s.emit none, step_of_no_input hinputs⟩
  | cons x rest =>
    rw [State.eq_present hinputs]
    exact step_present_next { s with inputs := rest } x

end Sys2Proof.Machine
